-- ==== Sys2Proof/Word.lean ====
section
/-! DEFINITION. The word types of the DCC core (spec 00_scope.md R8): a bit vector is used for whatever the host can read
as a register or a table field; addresses, counts and sizes inside a command are exact natural numbers or integers (R9). -/
namespace Sys2Proof

/-- One byte of the source memory or of a table (R30, R42, R44). -/
abbrev Byte := BitVec 8

/-- A 32-bit word: the command word (R80) and the 32-bit registers of R21. -/
abbrev Word := BitVec 32

/-- A 64-bit word: ARG0, ARG1, RES, the cursor fields and the extents (R21, R24, R38). -/
abbrev DWord := BitVec 64

/-- The number of a cursor register: NCUR = 8 cursors (R7, R24). -/
abbrev CursorIx := Fin 8

/-- A width selector SEL, 0 to 15 (R81, R94). -/
abbrev Selector := BitVec 4

end Sys2Proof
end

