-- ==== Sys2Proof/Syntax.lean ====
section
/-! DEFINITION. The commands of the DCC core as syntax: one constructor for each of the 46 rows of spec/opcode_table.json
(30_encoding.md R82: READU and READS are 16 commands each, one per width). An operand of a command is a cursor number,
0 to 7, which its type carries; all other operands come from ARG0 and ARG1 (R80). -/
namespace Sys2Proof

/-- A command of the core (R82). -/
inductive Instr where
  /-- CUROPEN (R111). -/
  | curopen (c : CursorIx)
  /-- READBIT (R112). -/
  | readbit (c : CursorIx)
  /-- READBOOL (R113). -/
  | readbool (c : CursorIx)
  /-- READU.W0 (R114), selector 0. -/
  | readuW0 (c : CursorIx)
  /-- READU.W1 (R114), selector 1. -/
  | readuW1 (c : CursorIx)
  /-- READU.W2 (R114), selector 2. -/
  | readuW2 (c : CursorIx)
  /-- READU.W4 (R114), selector 3. -/
  | readuW4 (c : CursorIx)
  /-- READU.W6 (R114), selector 4. -/
  | readuW6 (c : CursorIx)
  /-- READU.W8 (R114), selector 5. -/
  | readuW8 (c : CursorIx)
  /-- READU.W10 (R114), selector 6. -/
  | readuW10 (c : CursorIx)
  /-- READU.W12 (R114), selector 7. -/
  | readuW12 (c : CursorIx)
  /-- READU.W14 (R114), selector 8. -/
  | readuW14 (c : CursorIx)
  /-- READU.W16 (R114), selector 9. -/
  | readuW16 (c : CursorIx)
  /-- READU.W20 (R114), selector 10. -/
  | readuW20 (c : CursorIx)
  /-- READU.W24 (R114), selector 11. -/
  | readuW24 (c : CursorIx)
  /-- READU.W26 (R114), selector 12. -/
  | readuW26 (c : CursorIx)
  /-- READU.W28 (R114), selector 13. -/
  | readuW28 (c : CursorIx)
  /-- READU.W30 (R114), selector 14. -/
  | readuW30 (c : CursorIx)
  /-- READU.W32 (R114), selector 15. -/
  | readuW32 (c : CursorIx)
  /-- READS.W0 (R115), selector 0. -/
  | readsW0 (c : CursorIx)
  /-- READS.W1 (R115), selector 1. -/
  | readsW1 (c : CursorIx)
  /-- READS.W2 (R115), selector 2. -/
  | readsW2 (c : CursorIx)
  /-- READS.W4 (R115), selector 3. -/
  | readsW4 (c : CursorIx)
  /-- READS.W6 (R115), selector 4. -/
  | readsW6 (c : CursorIx)
  /-- READS.W8 (R115), selector 5. -/
  | readsW8 (c : CursorIx)
  /-- READS.W10 (R115), selector 6. -/
  | readsW10 (c : CursorIx)
  /-- READS.W12 (R115), selector 7. -/
  | readsW12 (c : CursorIx)
  /-- READS.W14 (R115), selector 8. -/
  | readsW14 (c : CursorIx)
  /-- READS.W16 (R115), selector 9. -/
  | readsW16 (c : CursorIx)
  /-- READS.W20 (R115), selector 10. -/
  | readsW20 (c : CursorIx)
  /-- READS.W24 (R115), selector 11. -/
  | readsW24 (c : CursorIx)
  /-- READS.W26 (R115), selector 12. -/
  | readsW26 (c : CursorIx)
  /-- READS.W28 (R115), selector 13. -/
  | readsW28 (c : CursorIx)
  /-- READS.W30 (R115), selector 14. -/
  | readsW30 (c : CursorIx)
  /-- READS.W32 (R115), selector 15. -/
  | readsW32 (c : CursorIx)
  /-- ALIGN (R116). -/
  | align (c : CursorIx)
  /-- SKIP (R117). -/
  | skip (c : CursorIx)
  /-- SIZE (R118). -/
  | size (c : CursorIx)
  /-- SLICE (R119): destination cursor `d`, parent cursor `c`. -/
  | slice (d c : CursorIx)
  /-- OPEN (R141). -/
  | openFile
  /-- DIRHDR (R160). -/
  | dirhdr
  /-- PREFIX (R200). -/
  | readPrefix
  /-- PCT (R190). -/
  | pct
  /-- SETUP (R201). -/
  | setup
  /-- RECON (R207). -/
  | recon
  /-- DECODE (R225). -/
  | decodeDir
deriving DecidableEq, Repr

/-- The 16 opcodes of the opcode map (R82), one per value of the field OPC. -/
inductive Opcode where
  | curopen | readbit | readbool | readu | reads | align | skip | size | slice
  | openFile | dirhdr | readPrefix | pct | setup | recon | decodeDir
deriving DecidableEq, Repr

/-- Why a word written to CMD is no command (R83). Every reason is reported to the host in the same way, as
IllegalCommand (R84); the names serve a reader of a rejection. -/
inductive Illegal where
  /-- OPC is not in the table of R82 (R85: reserved opcodes). -/
  | reservedOpcode
  /-- Bit 15 or one of bits 31 to 19 is 1 (R81). -/
  | reservedBits
  /-- SEL is not 0 and the command is neither READU nor READS (R81). -/
  | selNotZero
  /-- C is not 0 and the command is a stage command (R81). -/
  | sourceCursorNotZero
  /-- D is not 0 and the command is not SLICE (R81). -/
  | destCursorNotZero
deriving DecidableEq, Repr

end Sys2Proof
end

