-- ==== Sys2Proof/WellFormed.lean ====
section
/-! DEFINITION. When a command word is well formed: rule R83 of 30_encoding.md, one named check per clause, said directly
over the bits of the word (fields of R81) and without the decoder. A term of type Instr is well formed by its type (a cursor
number is below 8), so the checks are about words. -/
namespace Sys2Proof

/-- Field OPC, bits 7:0 (R81). -/
abbrev fieldOpc (w : Word) : BitVec 8 := w.extractLsb' 0 8
/-- Field SEL, bits 11:8 (R81). -/
abbrev fieldSel (w : Word) : Selector := w.extractLsb' 8 4
/-- Field C, bits 14:12 (R81). -/
abbrev fieldC (w : Word) : BitVec 3 := w.extractLsb' 12 3
/-- Bit 15, reserved (R81). -/
abbrev fieldBit15 (w : Word) : BitVec 1 := w.extractLsb' 15 1
/-- Field D, bits 18:16 (R81). -/
abbrev fieldD (w : Word) : BitVec 3 := w.extractLsb' 16 3
/-- Bits 31:19, reserved (R81). -/
abbrev fieldHigh (w : Word) : BitVec 13 := w.extractLsb' 19 13

/-- OPC is a value of R82's table: 0x10 to 0x18 or 0x20 to 0x26 (R83, R85). -/
def opcLegal (w : Word) : Bool :=
  decide ((0x10 ≤ (fieldOpc w).toNat ∧ (fieldOpc w).toNat ≤ 0x18) ∨ (0x20 ≤ (fieldOpc w).toNat ∧ (fieldOpc w).toNat ≤ 0x26))

/-- Bits 15 and 31:19 are 0 (R83). -/
def reservedLegal (w : Word) : Bool := decide (fieldBit15 w = 0 ∧ fieldHigh w = 0)

/-- "SEL must be 0 except for READU and READS" (R83). -/
def selLegal (w : Word) : Bool := decide (fieldOpc w = 0x13 ∨ fieldOpc w = 0x14 ∨ fieldSel w = 0)

/-- "C must be 0 for the stage commands 0x20 to 0x26" (R83). -/
def cLegal (w : Word) : Bool := decide ((fieldOpc w).toNat < 0x20 ∨ fieldC w = 0)

/-- "D must be 0 except for SLICE" (R83). -/
def dLegal (w : Word) : Bool := decide (fieldOpc w = 0x18 ∨ fieldD w = 0)

/-- A word is a legal command word (R83). -/
def wordLegal (w : Word) : Bool := opcLegal w && reservedLegal w && selLegal w && cLegal w && dLegal w

end Sys2Proof
end

