-- ==== Sys2Proof/Decode.lean ====
section
/-! DEFINITION. The decoder of command words, total and rejecting by name (30_encoding.md R80 to R84), and after it the
encoder, written from the same field layout (R81) and opcode map (R82). -/
namespace Sys2Proof

/-- The opcode map (R82): which command a value of OPC names. -/
def opcodeOf (b : BitVec 8) : Option Opcode :=
  match b with
  | 0x10#8 => some .curopen
  | 0x11#8 => some .readbit
  | 0x12#8 => some .readbool
  | 0x13#8 => some .readu
  | 0x14#8 => some .reads
  | 0x15#8 => some .align
  | 0x16#8 => some .skip
  | 0x17#8 => some .size
  | 0x18#8 => some .slice
  | 0x20#8 => some .openFile
  | 0x21#8 => some .dirhdr
  | 0x22#8 => some .readPrefix
  | 0x23#8 => some .pct
  | 0x24#8 => some .setup
  | 0x25#8 => some .recon
  | 0x26#8 => some .decodeDir
  | _ => none

/-- The command uses SEL: only READU and READS (R81). -/
def usesSel (op : Opcode) : Bool :=
  match op with
  | .readu | .reads => true
  | _ => false

/-- The command uses C: the bit-reader commands (R81). -/
def usesC (op : Opcode) : Bool :=
  match op with
  | .openFile | .dirhdr | .readPrefix | .pct | .setup | .recon | .decodeDir => false
  | _ => true

/-- The command uses D: only SLICE (R81). -/
def usesD (op : Opcode) : Bool :=
  match op with
  | .slice => true
  | _ => false

/-- READU with selector `sel` (R82, R114): the widths of R94 in order. -/
def readuOf (sel : Selector) (c : CursorIx) : Instr :=
  match sel with
  | 0#4 => .readuW0 c
  | 1#4 => .readuW1 c
  | 2#4 => .readuW2 c
  | 3#4 => .readuW4 c
  | 4#4 => .readuW6 c
  | 5#4 => .readuW8 c
  | 6#4 => .readuW10 c
  | 7#4 => .readuW12 c
  | 8#4 => .readuW14 c
  | 9#4 => .readuW16 c
  | 10#4 => .readuW20 c
  | 11#4 => .readuW24 c
  | 12#4 => .readuW26 c
  | 13#4 => .readuW28 c
  | 14#4 => .readuW30 c
  | _ => .readuW32 c

/-- READS with selector `sel` (R82, R115): the widths of R94 in order. -/
def readsOf (sel : Selector) (c : CursorIx) : Instr :=
  match sel with
  | 0#4 => .readsW0 c
  | 1#4 => .readsW1 c
  | 2#4 => .readsW2 c
  | 3#4 => .readsW4 c
  | 4#4 => .readsW6 c
  | 5#4 => .readsW8 c
  | 6#4 => .readsW10 c
  | 7#4 => .readsW12 c
  | 8#4 => .readsW14 c
  | 9#4 => .readsW16 c
  | 10#4 => .readsW20 c
  | 11#4 => .readsW24 c
  | 12#4 => .readsW26 c
  | 13#4 => .readsW28 c
  | 14#4 => .readsW30 c
  | _ => .readsW32 c

/-- The command an opcode and its operand fields name. -/
def instrOf (op : Opcode) (sel : Selector) (c d : CursorIx) : Instr :=
  match op with
  | .curopen => .curopen c
  | .readbit => .readbit c
  | .readbool => .readbool c
  | .readu => readuOf sel c
  | .reads => readsOf sel c
  | .align => .align c
  | .skip => .skip c
  | .size => .size c
  | .slice => .slice d c
  | .openFile => .openFile
  | .dirhdr => .dirhdr
  | .readPrefix => .readPrefix
  | .pct => .pct
  | .setup => .setup
  | .recon => .recon
  | .decodeDir => .decodeDir

/-- The decoder: the command a 32-bit word encodes, or why it is illegal (R83). -/
def decode (w : Word) : Except Illegal Instr :=
  match opcodeOf (fieldOpc w) with
  | none => .error .reservedOpcode
  | some op =>
    if fieldBit15 w ≠ 0 ∨ fieldHigh w ≠ 0 then .error .reservedBits
    else if usesSel op = false ∧ fieldSel w ≠ 0 then .error .selNotZero
    else if usesC op = false ∧ fieldC w ≠ 0 then .error .sourceCursorNotZero
    else if usesD op = false ∧ fieldD w ≠ 0 then .error .destCursorNotZero
    else .ok (instrOf op (fieldSel w) (fieldC w).toFin (fieldD w).toFin)

/-- The decoder on a row of spec/opcode_table.json: bit 0 of `w` is bit 0 of the command word (R81); a command is exactly
one 32-bit word (R80), whose bits above `nbits` are 0. -/
def decodeTableWord (nbits w : Nat) : Option Instr :=
  match decode (BitVec.ofNat 32 (w % 2 ^ nbits)) with
  | .ok i => some i
  | .error _ => none

/-- A command word from its fields (R81): bits 31:19 zero, D, bit 15 zero, C, SEL, OPC. -/
def cmdWord (opc : BitVec 8) (sel : Selector) (c d : CursorIx) : Word :=
  0#13 ++ BitVec.ofNat 3 d.val ++ 0#1 ++ BitVec.ofNat 3 c.val ++ sel ++ opc

/-- The encoder: the word of a command (R81, R82; unused fields 0, R83). -/
def encode (i : Instr) : Word :=
  match i with
  | .curopen c => cmdWord 0x10 0 c 0
  | .readbit c => cmdWord 0x11 0 c 0
  | .readbool c => cmdWord 0x12 0 c 0
  | .readuW0 c => cmdWord 0x13 0 c 0
  | .readuW1 c => cmdWord 0x13 1 c 0
  | .readuW2 c => cmdWord 0x13 2 c 0
  | .readuW4 c => cmdWord 0x13 3 c 0
  | .readuW6 c => cmdWord 0x13 4 c 0
  | .readuW8 c => cmdWord 0x13 5 c 0
  | .readuW10 c => cmdWord 0x13 6 c 0
  | .readuW12 c => cmdWord 0x13 7 c 0
  | .readuW14 c => cmdWord 0x13 8 c 0
  | .readuW16 c => cmdWord 0x13 9 c 0
  | .readuW20 c => cmdWord 0x13 10 c 0
  | .readuW24 c => cmdWord 0x13 11 c 0
  | .readuW26 c => cmdWord 0x13 12 c 0
  | .readuW28 c => cmdWord 0x13 13 c 0
  | .readuW30 c => cmdWord 0x13 14 c 0
  | .readuW32 c => cmdWord 0x13 15 c 0
  | .readsW0 c => cmdWord 0x14 0 c 0
  | .readsW1 c => cmdWord 0x14 1 c 0
  | .readsW2 c => cmdWord 0x14 2 c 0
  | .readsW4 c => cmdWord 0x14 3 c 0
  | .readsW6 c => cmdWord 0x14 4 c 0
  | .readsW8 c => cmdWord 0x14 5 c 0
  | .readsW10 c => cmdWord 0x14 6 c 0
  | .readsW12 c => cmdWord 0x14 7 c 0
  | .readsW14 c => cmdWord 0x14 8 c 0
  | .readsW16 c => cmdWord 0x14 9 c 0
  | .readsW20 c => cmdWord 0x14 10 c 0
  | .readsW24 c => cmdWord 0x14 11 c 0
  | .readsW26 c => cmdWord 0x14 12 c 0
  | .readsW28 c => cmdWord 0x14 13 c 0
  | .readsW30 c => cmdWord 0x14 14 c 0
  | .readsW32 c => cmdWord 0x14 15 c 0
  | .align c => cmdWord 0x15 0 c 0
  | .skip c => cmdWord 0x16 0 c 0
  | .size c => cmdWord 0x17 0 c 0
  | .slice d c => cmdWord 0x18 0 c d
  | .openFile => cmdWord 0x20 0 0 0
  | .dirhdr => cmdWord 0x21 0 0 0
  | .readPrefix => cmdWord 0x22 0 0 0
  | .pct => cmdWord 0x23 0 0 0
  | .setup => cmdWord 0x24 0 0 0
  | .recon => cmdWord 0x25 0 0 0
  | .decodeDir => cmdWord 0x26 0 0 0

end Sys2Proof
end

