-- ==== Sys2Proof/Config.lean ====
section
/-! DEFINITION. The implementation parameters of 00_scope.md R7 that the spec leaves OPEN: "the model takes the parameter
as an argument". They are a record, so that every statement about all states is about all parameters; the parameters of the
machine right after reset are the opaque constant `Config.params`, of which nothing can be proved but R7's bounds. -/
namespace Sys2Proof

/-- The 4 bytes OPEN compares the file's first 4 bytes with, byte 0 first (R7 SIGNATURE, R142). -/
structure Signature where
  byte0 : Byte
  byte1 : Byte
  byte2 : Byte
  byte3 : Byte
deriving DecidableEq, Repr, Inhabited

/-- The OPEN parameters of R7. A capacity is held as a raw number and read through the accessors below, which keep R7's
bounds, so that no record breaks them. SRC_CAP is below 2^32 by R7. DEDUCED (log entry 6): LOG_CAP and MAP_CAP are below 2^32
too, because the counts LOGCOUNT and MAPCOUNT are 32 bits wide (R45, R47). MAX_CELLS has no upper bound (R7). -/
structure Params where
  /-- SIGNATURE (R7, R142). -/
  signature : Signature
  /-- SRC_CAP is this number, but at least 18. -/
  srcCapRaw : Word
  /-- MAX_CELLS is this number, but at least 1. -/
  maxCellsRaw : Nat
  /-- LOG_CAP is this number, but at least 1. -/
  logCapRaw : Word
  /-- MAP_CAP is this number, but at least LOG_CAP. -/
  mapCapRaw : Word
deriving DecidableEq, Repr, Inhabited

/-- SRC_CAP, the capacity of the source memory in bytes: 18 ≤ SRC_CAP ≤ 2^32 − 1 (R7). -/
def Params.srcCap (p : Params) : Nat := max 18 p.srcCapRaw.toNat

/-- MAX_CELLS, the largest cell grid SETUP accepts: at least 1 (R7). -/
def Params.maxCells (p : Params) : Nat := max 1 p.maxCellsRaw

/-- LOG_CAP, the capacity of the entry log: at least 1 (R7). -/
def Params.logCap (p : Params) : Nat := max 1 p.logCapRaw.toNat

/-- MAP_CAP, the capacity of the cell map: at least LOG_CAP (R7). -/
def Params.mapCap (p : Params) : Nat := max p.logCap p.mapCapRaw.toNat

/-- The parameters of this core, left open by the spec (R7, 92_eei_decisions.md D15, D31): no value of them is known. -/
opaque Config.params : Params

end Sys2Proof
end

