-- ==== Sys2Proof/Machine/State.lean ====
section
/-! DEFINITION. The state of the DCC core (10_state.md), as plain data, with the reasons a step can stop and the state right
after reset (70_reset_and_hazards.md R280 to R282). The registers of R21, the cursor file, the source memory and the six
tables of R60 are all here; the last field group is the model's own: the parameters of R7 and the host's coming actions. -/
namespace Sys2Proof.Machine

/-- Sparse data by index: the entries in rising order of index, without those equal to what an unlisted index reads as. -/
abbrev Store (α : Type) := List (Nat × α)

/-- The source memory SRC (R30) as a list of (byte address, byte). -/
abbrev Memory := List Host.Cell

/-- The error kinds of R250, in the order of their codes 1 to 9 (R251). -/
inductive ErrorKind where
  | sourceUnavailable | malformedHeader | truncatedStream | invalidOffsetTable | incrementalUnsupported
  | capacityExceeded | illegalCommand | sequenceError | badIndex
deriving DecidableEq, Repr

/-- STAGE, how far the current file and direction have been decoded (R27). -/
inductive Stage where
  | idle | opened | hdr | prefixed | pct | setup | done
deriving DecidableEq, Repr

/-- A cursor register (R24): bit address of its first bit, bits consumed, bits in range, sticky error. -/
structure Cursor where
  base : DWord
  pos : DWord
  len : DWord
  err : Bool
deriving DecidableEq, Repr

/-- The cursor of reset, and of a direction stage not yet reached: no bits, no error (R24, R161, R281). -/
def Cursor.empty : Cursor := ⟨0, 0, 0, false⟩

/-- The cursor a failed making leaves: no bits, in error (R73, R74). -/
def Cursor.failed : Cursor := ⟨0, 0, 0, true⟩

/-- The file-header registers (R33). -/
structure FileHeader where
  sig : Word
  ver : BitVec 8
  dirCnt : BitVec 8
  fpd : BitVec 8
  rsv : BitVec 24
  tag : Word
  final : Word
deriving DecidableEq, Repr

/-- SELS, the 7 width selectors of a direction (R37). -/
structure Selectors where
  var0 : Selector
  width : Selector
  height : Selector
  xoff : Selector
  yoff : Selector
  optb : Selector
  codedb : Selector
deriving DecidableEq, Repr

/-- A frame header with the frame's extents (R40); `xoff`, `yoff` and the extents hold two's complement. -/
structure FrameHeader where
  var0 : Word
  width : Word
  height : Word
  xoff : Word
  yoff : Word
  optb : Word
  codedb : Word
  bottomUp : Bool
  fxmin : DWord
  fxmax : DWord
  fymin : DWord
  fymax : DWord
deriving DecidableEq, Repr

/-- A frame header with every field 0 (R40, R161). -/
def FrameHeader.zero : FrameHeader := ⟨0, 0, 0, 0, 0, 0, 0, false, 0, 0, 0, 0⟩

/-- The direction extents, 64-bit signed (R38). -/
structure Extents where
  xmin : DWord
  xmax : DWord
  ymin : DWord
  ymax : DWord
deriving DecidableEq, Repr

/-- The sub-stream lengths in bits (R41). -/
structure SubSizes where
  eq : BitVec 20
  mask : BitVec 20
  rawu : BitVec 20
  rawc : BitVec 20
deriving DecidableEq, Repr

/-- The 4 pixel codes of an entry, SLOT[0..3] (R44). -/
structure Slots where
  s0 : Byte
  s1 : Byte
  s2 : Byte
  s3 : Byte
deriving DecidableEq, Repr

/-- Four zero codes: the slots of a cell that has no previous entry (R210). -/
def Slots.zero : Slots := ⟨0, 0, 0, 0⟩

/-- An entry of the log (R44). -/
structure LogEntry where
  slots : Slots
  frame : BitVec 8
  cell : Word
deriving DecidableEq, Repr

/-- What an entry of the log that nothing has written holds (R282: any value; the model's choice, log entry 5). -/
def LogEntry.zero : LogEntry := ⟨Slots.zero, 0, 0⟩

/-- A record of the cell map (R46). -/
structure MapRecord where
  frame : BitVec 8
  cell : Word
  entry : Word
  reused : Bool
deriving DecidableEq, Repr

/-- What a record of the map that nothing has written holds (R282: any value; the model's choice, log entry 5). -/
def MapRecord.zero : MapRecord := ⟨0, 0, 0, false⟩

/-- What the host can do to the core (R22, R30, R76, R88, R280). Reads are not among them: they have no side effect
(R21, R51) and are the functions `readReg` and `readTable`. -/
inductive HostAction where
  /-- Write `value` to the host register with this number (R21); number 0 is CMD and issues a command (R22). -/
  | writeReg (no : Nat) (value : DWord)
  /-- Write `value` to entry `index` of a table space (R51); space 0 is the host memory port into SRC (R30). -/
  | writeTable (space index : Nat) (value : DWord)
  /-- The reset input of the platform (R280). -/
  | reset
deriving DecidableEq, Repr

/-- Why a step stops with a fault. No command faults: every error of a command is a next state (R255). -/
inductive Fault where
  /-- Raised by a host write through the memory port (table space 0) at a byte address that does not exist: SRC has
  addresses 0 to SRC_CAP − 1 (R30, R60). Safe: the spec gives such a write no effect, and the model stops. -/
  | srcAddressAbsent (address : Nat)
deriving DecidableEq, Repr

/-- Why the model has no meaning for a command. -/
inductive Refusal where
  /-- Raised by `exec` for a command that has no meaning yet. Safe: nothing is claimed of it. -/
  | notModelled (mnemonic : String)
deriving DecidableEq, Repr

/-- The state of the core. -/
structure State where
  /-- ARG0 (R23). -/
  arg0 : DWord
  /-- ARG1 (R23). -/
  arg1 : DWord
  /-- RES (R26). -/
  res : DWord
  /-- STATUS.ERR: the error the last command raised, none for OK (R28, R29). -/
  err : Option ErrorKind
  /-- STATUS.STAGE (R27). -/
  stage : Stage
  /-- STATUS.FAILED (R28). -/
  failed : Bool
  /-- SRC, the source memory (R30). -/
  src : Memory
  /-- SRCLEN (R31). -/
  srcLen : Word
  /-- SRCCTL bit 0, SRC_VALID (R32). -/
  srcValid : Bool
  /-- C[0..7], the cursor register file (R24); their `err` bits are STATUS.CERR too (R28). -/
  cursors : Vector Cursor 8
  /-- SIG, VER, DIRCNT, FPD, RSV, TAG, FINAL (R33). -/
  header : FileHeader
  /-- OFFT, 257 entries (R34). -/
  offt : Store Word
  /-- DIRIDX (R35). -/
  dirIdx : BitVec 8
  /-- OUTSIZE (R36). -/
  outSize : Word
  /-- FLAGS bit 0, HASRAW (R36). -/
  hasRaw : Bool
  /-- FLAGS bit 1, COMPEQ (R36). -/
  compEq : Bool
  /-- SELS (R37). -/
  sels : Selectors
  /-- XMIN, XMAX, YMIN, YMAX (R38). -/
  extents : Extents
  /-- GW (R39). -/
  gw : Word
  /-- GH (R39). -/
  gh : Word
  /-- FH, 255 frame headers (R40). -/
  fh : Store FrameHeader
  /-- EQSIZE, MASKSIZE, RAWUSIZE, RAWCSIZE (R41). -/
  sizes : SubSizes
  /-- PCTCOUNT (R42). -/
  pctCount : BitVec 9
  /-- PCT, 256 codes (R42). -/
  pct : Store Byte
  /-- LAST, MAX_CELLS slots; `none` is NONE (R43). -/
  last : Store (Option Word)
  /-- LOG, LOG_CAP entries (R44). -/
  log : Store LogEntry
  /-- LOGCOUNT (R45). -/
  logCount : Word
  /-- MAP, MAP_CAP records (R46). -/
  map : Store MapRecord
  /-- MAPCOUNT (R47). -/
  mapCount : Word
  /-- The parameters of R7: fixed for the machine, carried here so that every state has its own (log entry 1). -/
  params : Params
  /-- The host's actions that have not happened yet, the next one first: the host's part of R76's one total order. The
  model's own field (log entry 2). -/
  hostQueue : List HostAction
deriving DecidableEq, Repr

/-- The state right after reset of a core with the parameters `p` (R281, R282), with no host action coming. -/
def State.resetWith (p : Params) : State where
  arg0 := 0
  arg1 := 0
  res := 0
  err := none
  stage := .idle
  failed := false
  src := []
  srcLen := 0
  srcValid := false
  cursors := Vector.replicate 8 Cursor.empty
  header := ⟨0, 0, 0, 0, 0, 0, 0⟩
  offt := []
  dirIdx := 0
  outSize := 0
  hasRaw := false
  compEq := false
  sels := ⟨0, 0, 0, 0, 0, 0, 0⟩
  extents := ⟨0, 0, 0, 0⟩
  gw := 0
  gh := 0
  fh := []
  sizes := ⟨0, 0, 0, 0⟩
  pctCount := 0
  pct := []
  last := []
  log := []
  logCount := 0
  map := []
  mapCount := 0
  params := p
  hostQueue := []

/-- The state right after reset (R280 to R282), with the parameters the spec leaves open. -/
def State.reset : State := State.resetWith Config.params

end Sys2Proof.Machine
end

