-- ==== Sys2Proof/Machine/Flags.lean ====
section
/-! DEFINITION. The fields of STATUS (10_state.md R28) and the other registers that are assembled from fields: FLAGS (R36)
and SELS (R37); the error codes and classes (60_exceptions.md R251, R252). -/
namespace Sys2Proof.Machine

/-- The code of an error kind, as written to ERR (R251). -/
def errorCode (e : ErrorKind) : BitVec 4 :=
  match e with
  | .sourceUnavailable => 1
  | .malformedHeader => 2
  | .truncatedStream => 3
  | .invalidOffsetTable => 4
  | .incrementalUnsupported => 5
  | .capacityExceeded => 6
  | .illegalCommand => 7
  | .sequenceError => 8
  | .badIndex => 9

/-- The data kinds, codes 1 to 6 (R252). -/
def isDataError (e : ErrorKind) : Bool :=
  match e with
  | .sourceUnavailable | .malformedHeader | .truncatedStream | .invalidOffsetTable | .incrementalUnsupported
  | .capacityExceeded => true
  | .illegalCommand | .sequenceError | .badIndex => false

/-- ERR, STATUS bits 3:0: 0 when the last command succeeded (R29). -/
def errField (e : Option ErrorKind) : BitVec 4 :=
  match e with
  | none => 0
  | some k => errorCode k

/-- STAGE, STATUS bits 6:4 (R27). -/
def stageField (g : Stage) : BitVec 3 :=
  match g with
  | .idle => 0
  | .opened => 1
  | .hdr => 2
  | .prefixed => 3
  | .pct => 4
  | .setup => 5
  | .done => 6

/-- CERR, STATUS bits 15:8: bit c mirrors C[c].err (R28). -/
def cerrField (cs : Vector Cursor 8) : BitVec 8 :=
  BitVec.ofBool cs[7].err ++ BitVec.ofBool cs[6].err ++ BitVec.ofBool cs[5].err ++ BitVec.ofBool cs[4].err
    ++ BitVec.ofBool cs[3].err ++ BitVec.ofBool cs[2].err ++ BitVec.ofBool cs[1].err ++ BitVec.ofBool cs[0].err

/-- STATUS (R28): bits 31:17 read 0, BUSY (bit 16) is always 0, then CERR, FAILED, STAGE, ERR. -/
def statusWord (s : State) : Word :=
  0#15 ++ 0#1 ++ cerrField s.cursors ++ BitVec.ofBool s.failed ++ stageField s.stage ++ errField s.err

/-- FLAGS (R36): bit 0 HASRAW, bit 1 COMPEQ. -/
def flagsField (hasRaw compEq : Bool) : BitVec 2 := BitVec.ofBool compEq ++ BitVec.ofBool hasRaw

/-- SELS (R37): SEL_VAR0 in bits 3:0 up to SEL_CODEDB in bits 27:24. -/
def selsField (x : Selectors) : BitVec 28 := x.codedb ++ x.optb ++ x.yoff ++ x.xoff ++ x.height ++ x.width ++ x.var0

/-- A stage command other than OPEN needs `stage` as the stage reached and FAILED = 0 (R200, R190, R201, R207). -/
def stageReady (g : Stage) (s : State) : Bool := decide (s.stage = g) && !s.failed

end Sys2Proof.Machine
end

