-- ==== Sys2Proof/Machine/Operands.lean ====
section
/-! DEFINITION. Operand forms: the width-selector table, zero and sign extension of a field that was read, and the names of
the cursor roles (30_encoding.md R94, R95, R105; 00_scope.md R9; 10_state.md R25). -/
namespace Sys2Proof.Machine

/-- The width-selector table W(s) (R94). -/
def selWidth (s : Selector) : Nat :=
  match s with
  | 0#4 => 0
  | 1#4 => 1
  | 2#4 => 2
  | 3#4 => 4
  | 4#4 => 6
  | 5#4 => 8
  | 6#4 => 10
  | 7#4 => 12
  | 8#4 => 14
  | 9#4 => 16
  | 10#4 => 20
  | 11#4 => 24
  | 12#4 => 26
  | 13#4 => 28
  | 14#4 => 30
  | _ => 32

/-- The integer a `w`-bit value stands for in two's complement; 0 when `w = 0` (R9 sext_N, R105). -/
def signedValue (v w : Nat) : Int :=
  if w = 0 then 0 else if v.testBit (w - 1) then (v : Int) - 2 ^ w else v

/-- FHW, the width of every frame header of a direction (R97). -/
def frameHeaderWidth (x : Selectors) : Nat :=
  selWidth x.var0 + selWidth x.width + selWidth x.height + selWidth x.xoff + selWidth x.yoff + selWidth x.optb
    + selWidth x.codedb + 1

/-- popcount of a 4-bit pixel mask (R9, R214). -/
def popcount4 (m : BitVec 4) : Nat := (m.getLsbD 0).toNat + (m.getLsbD 1).toNat + (m.getLsbD 2).toNat + (m.getLsbD 3).toNat

/-- Cursor 0, MAIN: the direction's cursor (R25). -/
abbrev cMain : CursorIx := 0
/-- Cursor 1, EQ: equal-cell flags (R25). -/
abbrev cEq : CursorIx := 1
/-- Cursor 2, MASK: pixel masks (R25). -/
abbrev cMask : CursorIx := 2
/-- Cursor 3, RAWU: raw-usage bits (R25). -/
abbrev cRawu : CursorIx := 3
/-- Cursor 4, RAWC: raw codes (R25). -/
abbrev cRawc : CursorIx := 4
/-- Cursor 5, INC: incremental codes (R25). -/
abbrev cInc : CursorIx := 5

end Sys2Proof.Machine
end

