-- ==== Sys2Proof/Machine/Ops.lean ====
section
/-! DEFINITION. The shared operations: sparse stores, the source memory, the cursor primitives of 20_memory.md R70 to R74,
the way a command is sequenced and ended (00_scope.md R10 and R12, 60_exceptions.md R253 and R256), and the named writes to
State. Raising an error is ONE operation, `takeError`; the core has no handlers and so no return from an error (R256). -/
namespace Sys2Proof.Machine

/-! ### Sparse stores -/

/-- The entry at an index; `d` is what an unlisted index reads as. -/
def Store.get {α : Type} (d : α) : Store α → Nat → α
  | [], _ => d
  | (k, v) :: m, a => if k = a then v else Store.get d m a

/-- The store without any entry at index `a`. -/
def Store.erase {α : Type} (m : Store α) (a : Nat) : Store α := m.filter (fun p => p.1 != a)

/-- Put an entry before the first one with a higher index. -/
def Store.insert {α : Type} (a : Nat) (v : α) : Store α → Store α
  | [] => [(a, v)]
  | (k, w) :: m => if a < k then (a, v) :: (k, w) :: m else (k, w) :: Store.insert a v m

/-- Write an entry; writing what an unlisted index reads as removes the entry. -/
def Store.set {α : Type} [DecidableEq α] (d : α) (m : Store α) (a : Nat) (v : α) : Store α :=
  if v = d then Store.erase m a else Store.insert a v (Store.erase m a)

/-- Every index below `n` reads as an unlisted one. -/
def Store.clearBelow {α : Type} (m : Store α) (n : Nat) : Store α := m.filter (fun p => decide (n ≤ p.1))

/-- The canonical form of a store: indexes strictly rising, no entry that an unlisted index reads as. -/
abbrev Store.wf {α : Type} [DecidableEq α] (d : α) (m : Store α) : Prop :=
  (m.map Prod.fst).Pairwise (· < ·) ∧ ∀ p ∈ m, p.2 ≠ d

/-! ### The source memory -/

/-- What a byte of SRC that nothing has written reads as: the spec leaves it unspecified, "any value" (R282); the model's
choice is 0 (log entry 4). -/
def unlistedByte : Byte := 0

/-- SRC[a] (R30); total, also past SRC_CAP, where no reachable read goes (log entry 8). -/
def Memory.byte (m : Memory) (a : Nat) : Byte := Store.get unlistedByte m a

/-- Write one byte of SRC (R30). -/
def Memory.setByte (m : Memory) (a : Nat) (b : Byte) : Memory := Store.set unlistedByte m a b

/-- The canonical form of the source memory of a core with capacity `cap` (R30: addresses 0 to SRC_CAP − 1). -/
abbrev Memory.wf (cap : Nat) (m : Memory) : Prop := Store.wf unlistedByte m ∧ ∀ p ∈ m, p.1 < cap

/-- MemRead(a, n): `n` bytes from byte address `a`, little-endian (R11, R62). -/
def memRead (m : Memory) (a : Nat) : Nat → Nat
  | 0 => 0
  | n + 1 => memRead m a n + (Memory.byte m (a + n)).toNat * 2 ^ (8 * n)

/-- SrcBit(b): the bit at bit address `b` (R11, R63). -/
def srcBit (m : Memory) (b : Nat) : Bool := (Memory.byte m (b / 8)).getLsbD (b % 8)

/-- The `w`-bit field whose first bit is at bit address `b`: the first bit is the least significant (R64). -/
def fieldAt (m : Memory) (b : Nat) : Nat → Nat
  | 0 => 0
  | w + 1 => fieldAt m b w + (srcBit m (b + w)).toNat * 2 ^ w

/-! ### Cursors as values: exact arithmetic, narrowed when a field is written (log entry 11) -/

/-- An access of `n` bits is refused: the cursor is in error or fewer than `n` bits are left (R70, R71). -/
def Cursor.blocks (k : Cursor) (n : Nat) : Bool := k.err || decide (k.len.toNat < k.pos.toNat + n)

/-- The cursor after an access of `n` bits: moved past them, or in error and not moved (R70, R71). -/
def Cursor.advance (k : Cursor) (n : Nat) : Cursor :=
  if k.blocks n then { k with err := true } else { k with pos := BitVec.ofNat 64 (k.pos.toNat + n) }

/-- The value a read of `w` bits gives: 0 when it is refused (R70). -/
def Cursor.value (m : Memory) (k : Cursor) (w : Nat) : Nat :=
  if k.blocks w then 0 else fieldAt m (k.base.toNat + k.pos.toNat) w

/-- How far ALIGN moves: to the next multiple of 8 of the position (R72). -/
def Cursor.toAlign (k : Cursor) : Nat := (8 - k.pos.toNat % 8) % 8

/-- CurSlice: an independent cursor over what is left of `k`, with its error (R73). -/
def Cursor.rest (k : Cursor) : Cursor := ⟨k.base + k.pos, 0, k.len - k.pos, k.err⟩

/-- CurSliceN: the slice of exactly `n` bits (R73). -/
def Cursor.part (k : Cursor) (n : Nat) : Cursor :=
  if k.blocks n then Cursor.failed else ⟨k.base + k.pos, 0, BitVec.ofNat 64 n, false⟩

/-- The cursor CurOpen makes over `n` bytes from byte address `a`: in error when they pass SRCLEN (R74). -/
def Cursor.overBytes (srcLen a n : Nat) : Cursor :=
  if srcLen < a + n then Cursor.failed else ⟨BitVec.ofNat 64 (8 * a), 0, BitVec.ofNat 64 (8 * n), false⟩

/-! ### Named reads and writes of State -/

/-- C[c]. -/
def State.cursor (s : State) (c : CursorIx) : Cursor := s.cursors[c]

/-- C[c] <- k. -/
def State.setCursor (s : State) (c : CursorIx) (k : Cursor) : State := { s with cursors := s.cursors.set c k }

/-- OFFT[i] (R34). -/
def State.offset (s : State) (i : Nat) : Word := Store.get 0 s.offt i

/-- OFFT[i] <- v. -/
def State.setOffset (s : State) (i : Nat) (v : Word) : State := { s with offt := Store.set 0 s.offt i v }

/-- FH[f] (R40). -/
def State.frame (s : State) (f : Nat) : FrameHeader := Store.get FrameHeader.zero s.fh f

/-- FH[f] <- h. -/
def State.setFrame (s : State) (f : Nat) (h : FrameHeader) : State := { s with fh := Store.set FrameHeader.zero s.fh f h }

/-- PCT[k] (R42). -/
def State.code (s : State) (k : Nat) : Byte := Store.get 0 s.pct k

/-- PCT[PCTCOUNT] <- j; PCTCOUNT <- PCTCOUNT + 1 (R190). -/
def State.putCode (s : State) (j : Byte) : State :=
  { s with pct := Store.set 0 s.pct s.pctCount.toNat j, pctCount := s.pctCount + 1 }

/-- LAST[k], `none` for NONE (R43). -/
def State.lastEntry (s : State) (k : Nat) : Option Word := Store.get none s.last k

/-- LAST[k] <- j (R210 step 8). -/
def State.setLast (s : State) (k : Nat) (j : Word) : State := { s with last := Store.set none s.last k (some j) }

/-- LOG[j] (R44). -/
def State.entry (s : State) (j : Nat) : LogEntry := Store.get LogEntry.zero s.log j

/-- LOG[LOGCOUNT] <- e; LOGCOUNT <- LOGCOUNT + 1 (R220). -/
def State.putEntry (s : State) (e : LogEntry) : State :=
  { s with log := Store.set LogEntry.zero s.log s.logCount.toNat e, logCount := s.logCount + 1 }

/-- MAP[j] (R46). -/
def State.record (s : State) (j : Nat) : MapRecord := Store.get MapRecord.zero s.map j

/-- MAP[MAPCOUNT] <- r; MAPCOUNT <- MAPCOUNT + 1 (R222). -/
def State.putRecord (s : State) (r : MapRecord) : State :=
  { s with map := Store.set MapRecord.zero s.map s.mapCount.toNat r, mapCount := s.mapCount + 1 }

/-- The file is released or discarded: STAGE <- IDLE, FAILED <- 0 (R32, R140). -/
def State.release (s : State) : State := { s with stage := .idle, failed := false }

/-! ### How a command runs -/

/-- A command: it changes the state in the order of its pseudocode, and either ends or raises an error with the writes
made so far in place (R10, R12). -/
abbrev Cmd (α : Type) := EStateM ErrorKind State α

/-- A write to state elements. -/
def write (f : State → State) : Cmd Unit := fun s => .ok () (f s)

/-- `if p then raise e` (R12). -/
def raiseWhen (p : State → Bool) (e : ErrorKind) : Cmd Unit := fun s => if p s then .error e s else .ok () s

/-- `raise e` (R12). -/
def raise (e : ErrorKind) : Cmd Unit := fun s => .error e s

/-- A command that reads the state first. -/
def withState {α : Type} (f : State → Cmd α) : Cmd α := fun s => (f s).run s

/-- `for i in 0 .. n − 1`. -/
def forBelow : Nat → (Nat → Cmd Unit) → Cmd Unit
  | 0, _ => pure ()
  | n + 1, body => do
    forBelow n body
    body n

/-- `for x in xs`. -/
def forEach {α : Type} : List α → (α → Cmd Unit) → Cmd Unit
  | [], _ => pure ()
  | x :: xs, body => do
    body x
    forEach xs body

/-! ### The cursor primitives -/

/-- CurRead(c, w) (R70): the value read, as an unsigned number of `w` bits. -/
def curRead (c : CursorIx) (w : Nat) : Cmd Nat := fun s =>
  .ok ((s.cursor c).value s.src w) (s.setCursor c ((s.cursor c).advance w))

/-- CurSkip(c, n) (R71). -/
def curSkip (c : CursorIx) (n : Nat) : Cmd Unit := write fun s => s.setCursor c ((s.cursor c).advance n)

/-- CurAlign(c) (R72). -/
def curAlign (c : CursorIx) : Cmd Unit := write fun s => s.setCursor c ((s.cursor c).advance (s.cursor c).toAlign)

/-- CurSlice(d, c) (R73): the parent is read before the slice is written. -/
def curSlice (d c : CursorIx) : Cmd Unit := write fun s => s.setCursor d (s.cursor c).rest

/-- CurSliceN(d, c, n) (R73): the parent moves past the slice, then the slice is made from the parent as it was. -/
def curSliceN (d c : CursorIx) (n : Nat) : Cmd Unit :=
  write fun s => (s.setCursor c ((s.cursor c).advance n)).setCursor d ((s.cursor c).part n)

/-- CurOpen(c, a, n) (R74). -/
def curOpen (c : CursorIx) (a n : Nat) : Cmd Unit := write fun s => s.setCursor c (Cursor.overBytes s.srcLen.toNat a n)

/-- fail_if_err(c) (R12). -/
def failIfErr (c : CursorIx) : Cmd Unit := raiseWhen (fun s => (s.cursor c).err) .truncatedStream

/-- Rc(c, w), and R(w) with c = 0: read and abort at a failure (42_direction_header.md and 44_cell_reconstructor.md). -/
def readOrFail (c : CursorIx) (w : Nat) : Cmd Nat := do
  let v ← curRead c w
  failIfErr c
  pure v

/-! ### Ending a command -/

/-- The two groups of commands: an error of the data kinds in a stage command also sets FAILED (R110, R253). -/
inductive CmdGroup where
  | bitReader
  | stage
deriving DecidableEq, Repr

/-- Raising an error ends the command with this (R29, R253, R256): ERR is the error's code, and a stage command that raised
an error of the data kinds sets FAILED; STAGE stays at the last stage completed, and every write made before stays. -/
def takeError (g : CmdGroup) (e : ErrorKind) (s : State) : State :=
  { s with err := some e, failed := s.failed || (decide (g = .stage) && isDataError e) }

/-- A command that succeeds ends with ERR = 0 (R29). -/
def succeed (s : State) : State := { s with err := none }

/-- Run a command to its end (R255: every command, failing or not, completes). -/
def complete (g : CmdGroup) (x : Cmd Unit) (s : State) : Host.Outcome State Fault Refusal :=
  match x.run s with
  | .ok _ t => .next (succeed t)
  | .error e t => .next (takeError g e t)

end Sys2Proof.Machine
end

