-- ==== Sys2Proof/Machine/BitReader.lean ====
section
/-! DEFINITION. The bit-reader commands (40_bitreader.md R110 to R119): one meaning per command, over the cursor primitives. -/
namespace Sys2Proof.Machine

/-- RES <- v. -/
def setRes (v : DWord) : Cmd Unit := write fun s => { s with res := v }

/-- A read of `w` bits, zero-extended into RES (R112, R113, R114). -/
def readUnsigned (c : CursorIx) (w : Nat) : Cmd Unit := do
  let v ← curRead c w
  setRes (BitVec.ofNat 64 v)
  failIfErr c

/-- A read of `w` bits, sign-extended into RES (R115). -/
def readSigned (c : CursorIx) (w : Nat) : Cmd Unit := do
  let v ← curRead c w
  setRes (BitVec.ofInt 64 (signedValue v w))
  failIfErr c

/-- CUROPEN (R111): a cursor over ARG1 bytes from byte offset ARG0. -/
def curopenCmd (c : CursorIx) : Cmd Unit := do
  raiseWhen (fun s => !s.srcValid) .sourceUnavailable
  withState fun s => curOpen c s.arg0.toNat s.arg1.toNat
  failIfErr c

/-- ALIGN (R116). -/
def alignCmd (c : CursorIx) : Cmd Unit := do
  curAlign c
  failIfErr c

/-- SKIP (R117): the bit count is ARG0. -/
def skipCmd (c : CursorIx) : Cmd Unit := do
  withState fun s => curSkip c s.arg0.toNat
  failIfErr c

/-- SIZE (R118): the length of the whole range; it never fails. -/
def sizeCmd (c : CursorIx) : Cmd Unit := withState fun s => setRes (s.cursor c).len

/-- SLICE (R119). -/
def sliceCmd (d c : CursorIx) : Cmd Unit := do
  curSlice d c
  failIfErr d

/-- CUROPEN (R111). -/
def execCuropen (c : CursorIx) (s : State) : Host.Outcome State Fault Refusal := complete .bitReader (curopenCmd c) s

/-- READBIT (R112). -/
def execReadbit (c : CursorIx) (s : State) : Host.Outcome State Fault Refusal := complete .bitReader (readUnsigned c 1) s

/-- READBOOL (R113): identical to READBIT in every respect. -/
def execReadbool (c : CursorIx) (s : State) : Host.Outcome State Fault Refusal := complete .bitReader (readUnsigned c 1) s

/-- READU.W0 (R114, selector 0). -/
def execReaduW0 (c : CursorIx) (s : State) : Host.Outcome State Fault Refusal :=
  complete .bitReader (readUnsigned c (selWidth 0)) s

/-- READU.W1 (R114, selector 1). -/
def execReaduW1 (c : CursorIx) (s : State) : Host.Outcome State Fault Refusal :=
  complete .bitReader (readUnsigned c (selWidth 1)) s

/-- READU.W2 (R114, selector 2). -/
def execReaduW2 (c : CursorIx) (s : State) : Host.Outcome State Fault Refusal :=
  complete .bitReader (readUnsigned c (selWidth 2)) s

/-- READU.W4 (R114, selector 3). -/
def execReaduW4 (c : CursorIx) (s : State) : Host.Outcome State Fault Refusal :=
  complete .bitReader (readUnsigned c (selWidth 3)) s

/-- READU.W6 (R114, selector 4). -/
def execReaduW6 (c : CursorIx) (s : State) : Host.Outcome State Fault Refusal :=
  complete .bitReader (readUnsigned c (selWidth 4)) s

/-- READU.W8 (R114, selector 5). -/
def execReaduW8 (c : CursorIx) (s : State) : Host.Outcome State Fault Refusal :=
  complete .bitReader (readUnsigned c (selWidth 5)) s

/-- READU.W10 (R114, selector 6). -/
def execReaduW10 (c : CursorIx) (s : State) : Host.Outcome State Fault Refusal :=
  complete .bitReader (readUnsigned c (selWidth 6)) s

/-- READU.W12 (R114, selector 7). -/
def execReaduW12 (c : CursorIx) (s : State) : Host.Outcome State Fault Refusal :=
  complete .bitReader (readUnsigned c (selWidth 7)) s

/-- READU.W14 (R114, selector 8). -/
def execReaduW14 (c : CursorIx) (s : State) : Host.Outcome State Fault Refusal :=
  complete .bitReader (readUnsigned c (selWidth 8)) s

/-- READU.W16 (R114, selector 9). -/
def execReaduW16 (c : CursorIx) (s : State) : Host.Outcome State Fault Refusal :=
  complete .bitReader (readUnsigned c (selWidth 9)) s

/-- READU.W20 (R114, selector 10). -/
def execReaduW20 (c : CursorIx) (s : State) : Host.Outcome State Fault Refusal :=
  complete .bitReader (readUnsigned c (selWidth 10)) s

/-- READU.W24 (R114, selector 11). -/
def execReaduW24 (c : CursorIx) (s : State) : Host.Outcome State Fault Refusal :=
  complete .bitReader (readUnsigned c (selWidth 11)) s

/-- READU.W26 (R114, selector 12). -/
def execReaduW26 (c : CursorIx) (s : State) : Host.Outcome State Fault Refusal :=
  complete .bitReader (readUnsigned c (selWidth 12)) s

/-- READU.W28 (R114, selector 13). -/
def execReaduW28 (c : CursorIx) (s : State) : Host.Outcome State Fault Refusal :=
  complete .bitReader (readUnsigned c (selWidth 13)) s

/-- READU.W30 (R114, selector 14). -/
def execReaduW30 (c : CursorIx) (s : State) : Host.Outcome State Fault Refusal :=
  complete .bitReader (readUnsigned c (selWidth 14)) s

/-- READU.W32 (R114, selector 15). -/
def execReaduW32 (c : CursorIx) (s : State) : Host.Outcome State Fault Refusal :=
  complete .bitReader (readUnsigned c (selWidth 15)) s

/-- READS.W0 (R115, selector 0). -/
def execReadsW0 (c : CursorIx) (s : State) : Host.Outcome State Fault Refusal :=
  complete .bitReader (readSigned c (selWidth 0)) s

/-- READS.W1 (R115, selector 1). -/
def execReadsW1 (c : CursorIx) (s : State) : Host.Outcome State Fault Refusal :=
  complete .bitReader (readSigned c (selWidth 1)) s

/-- READS.W2 (R115, selector 2). -/
def execReadsW2 (c : CursorIx) (s : State) : Host.Outcome State Fault Refusal :=
  complete .bitReader (readSigned c (selWidth 2)) s

/-- READS.W4 (R115, selector 3). -/
def execReadsW4 (c : CursorIx) (s : State) : Host.Outcome State Fault Refusal :=
  complete .bitReader (readSigned c (selWidth 3)) s

/-- READS.W6 (R115, selector 4). -/
def execReadsW6 (c : CursorIx) (s : State) : Host.Outcome State Fault Refusal :=
  complete .bitReader (readSigned c (selWidth 4)) s

/-- READS.W8 (R115, selector 5). -/
def execReadsW8 (c : CursorIx) (s : State) : Host.Outcome State Fault Refusal :=
  complete .bitReader (readSigned c (selWidth 5)) s

/-- READS.W10 (R115, selector 6). -/
def execReadsW10 (c : CursorIx) (s : State) : Host.Outcome State Fault Refusal :=
  complete .bitReader (readSigned c (selWidth 6)) s

/-- READS.W12 (R115, selector 7). -/
def execReadsW12 (c : CursorIx) (s : State) : Host.Outcome State Fault Refusal :=
  complete .bitReader (readSigned c (selWidth 7)) s

/-- READS.W14 (R115, selector 8). -/
def execReadsW14 (c : CursorIx) (s : State) : Host.Outcome State Fault Refusal :=
  complete .bitReader (readSigned c (selWidth 8)) s

/-- READS.W16 (R115, selector 9). -/
def execReadsW16 (c : CursorIx) (s : State) : Host.Outcome State Fault Refusal :=
  complete .bitReader (readSigned c (selWidth 9)) s

/-- READS.W20 (R115, selector 10). -/
def execReadsW20 (c : CursorIx) (s : State) : Host.Outcome State Fault Refusal :=
  complete .bitReader (readSigned c (selWidth 10)) s

/-- READS.W24 (R115, selector 11). -/
def execReadsW24 (c : CursorIx) (s : State) : Host.Outcome State Fault Refusal :=
  complete .bitReader (readSigned c (selWidth 11)) s

/-- READS.W26 (R115, selector 12). -/
def execReadsW26 (c : CursorIx) (s : State) : Host.Outcome State Fault Refusal :=
  complete .bitReader (readSigned c (selWidth 12)) s

/-- READS.W28 (R115, selector 13). -/
def execReadsW28 (c : CursorIx) (s : State) : Host.Outcome State Fault Refusal :=
  complete .bitReader (readSigned c (selWidth 13)) s

/-- READS.W30 (R115, selector 14). -/
def execReadsW30 (c : CursorIx) (s : State) : Host.Outcome State Fault Refusal :=
  complete .bitReader (readSigned c (selWidth 14)) s

/-- READS.W32 (R115, selector 15). -/
def execReadsW32 (c : CursorIx) (s : State) : Host.Outcome State Fault Refusal :=
  complete .bitReader (readSigned c (selWidth 15)) s

/-- ALIGN (R116). -/
def execAlign (c : CursorIx) (s : State) : Host.Outcome State Fault Refusal := complete .bitReader (alignCmd c) s

/-- SKIP (R117). -/
def execSkip (c : CursorIx) (s : State) : Host.Outcome State Fault Refusal := complete .bitReader (skipCmd c) s

/-- SIZE (R118). -/
def execSize (c : CursorIx) (s : State) : Host.Outcome State Fault Refusal := complete .bitReader (sizeCmd c) s

/-- SLICE (R119). -/
def execSlice (d c : CursorIx) (s : State) : Host.Outcome State Fault Refusal := complete .bitReader (sliceCmd d c) s

end Sys2Proof.Machine
end

