-- ==== Sys2Proof/Machine/DirHeader.lean ====
section
/-! DEFINITION. DIRHDR, the direction-header command (42_direction_header.md R160 to R170): the direction's cursor, its flags
and width selectors, the frame headers with their extents, the optional data and the direction extents. -/
namespace Sys2Proof.Machine

/-- DirClear (R161): the direction state no value of an earlier direction survives in. LAST and the contents of LOG and MAP
are not cleared. -/
def State.dirClear (s : State) : State :=
  { s with
    outSize := 0
    hasRaw := false
    compEq := false
    sels := ⟨0, 0, 0, 0, 0, 0, 0⟩
    extents := ⟨0, 0, 0, 0⟩
    gw := 0
    gh := 0
    sizes := ⟨0, 0, 0, 0⟩
    pctCount := 0
    logCount := 0
    mapCount := 0
    fh := []
    pct := []
    cursors := ((((s.cursors.set 1 Cursor.empty).set 2 Cursor.empty).set 3 Cursor.empty).set 4 Cursor.empty).set 5 Cursor.empty }

/-- The prerequisites passed: FAILED <- 0; STAGE <- OPENED; DIRIDX <- i; DirClear() (R160). -/
def State.startDirection (s : State) (i : Nat) : State :=
  ({ s with failed := false, stage := .opened, dirIdx := BitVec.ofNat 8 i } : State).dirClear

/-- x <- R(w) for a state element x (R160). -/
def readInto (w : Nat) (f : Nat → State → State) : Cmd Unit := do
  let v ← readOrFail cMain w
  write (f v)

/-- A field of FH[f] <- the `w`-bit field read (R164). -/
def readFrameField (f w : Nat) (g : Nat → FrameHeader → FrameHeader) : Cmd Unit :=
  readInto w fun v s => s.setFrame f (g v (s.frame f))

/-- FrameExtents (R166), in exact integer arithmetic. -/
def frameExtents (h : FrameHeader) : FrameHeader :=
  { h with
    fxmin := BitVec.ofInt 64 h.xoff.toInt
    fxmax := BitVec.ofInt 64 (h.xoff.toInt + h.width.toNat)
    fymin := BitVec.ofInt 64 (if h.bottomUp then h.yoff.toInt else h.yoff.toInt - h.height.toNat + 1)
    fymax := BitVec.ofInt 64 (if h.bottomUp then h.yoff.toInt + h.height.toNat else h.yoff.toInt + 1) }

/-- ReadFrameHeader(f) (R164), each field with the width of its selector. -/
def readFrameHeader (f : Nat) : Cmd Unit := withState fun s => do
  readFrameField f (selWidth s.sels.var0) fun v h => { h with var0 := BitVec.ofNat 32 v }
  readFrameField f (selWidth s.sels.width) fun v h => { h with width := BitVec.ofNat 32 v }
  readFrameField f (selWidth s.sels.height) fun v h => { h with height := BitVec.ofNat 32 v }
  readFrameField f (selWidth s.sels.xoff) fun v h => { h with xoff := BitVec.ofInt 32 (signedValue v (selWidth s.sels.xoff)) }
  readFrameField f (selWidth s.sels.yoff) fun v h => { h with yoff := BitVec.ofInt 32 (signedValue v (selWidth s.sels.yoff)) }
  readFrameField f (selWidth s.sels.optb) fun v h => { h with optb := BitVec.ofNat 32 v }
  readFrameField f (selWidth s.sels.codedb) fun v h => { h with codedb := BitVec.ofNat 32 v }
  readFrameField f 1 fun v h => { h with bottomUp := decide (v = 1) }
  write fun s => s.setFrame f (frameExtents (s.frame f))

/-- SkipOptional's body for a frame with optional data of `n` bytes: align, then skip (R167). -/
def skipBlock (n : Nat) : Cmd Unit := do
  curAlign cMain
  curSkip cMain (8 * n)
  failIfErr cMain

/-- SkipOptional(f) (R167): a frame with OPTB = 0 causes no alignment. -/
def skipOptional (f : Nat) : Cmd Unit := withState fun s =>
  if (s.frame f).optb = 0 then pure () else skipBlock (s.frame f).optb.toNat

/-- The minimum of g f over the frames f = 0 .. n (R168). -/
def minOver (g : Nat → Int) : Nat → Int
  | 0 => g 0
  | n + 1 => min (minOver g n) (g (n + 1))

/-- The maximum of g f over the frames f = 0 .. n (R168). -/
def maxOver (g : Nat → Int) : Nat → Int
  | 0 => g 0
  | n + 1 => max (maxOver g n) (g (n + 1))

/-- DirectionExtents (R168): the union of the frame extents; with FPD = 0 they keep the 0 of DirClear. -/
def State.unionExtents (s : State) : Extents :=
  if s.header.fpd = 0 then s.extents
  else
    { xmin := BitVec.ofInt 64 (minOver (fun f => (s.frame f).fxmin.toInt) (s.header.fpd.toNat - 1))
      xmax := BitVec.ofInt 64 (maxOver (fun f => (s.frame f).fxmax.toInt) (s.header.fpd.toNat - 1))
      ymin := BitVec.ofInt 64 (minOver (fun f => (s.frame f).fymin.toInt) (s.header.fpd.toNat - 1))
      ymax := BitVec.ofInt 64 (maxOver (fun f => (s.frame f).fymax.toInt) (s.header.fpd.toNat - 1)) }

/-- The 62-bit direction header (R163, R93). -/
def readDirectionHeader : Cmd Unit := do
  readInto 32 fun v s => { s with outSize := BitVec.ofNat 32 v }
  readInto 1 fun v s => { s with hasRaw := decide (v = 1) }
  readInto 1 fun v s => { s with compEq := decide (v = 1) }
  readInto 4 fun v s => { s with sels := { s.sels with var0 := BitVec.ofNat 4 v } }
  readInto 4 fun v s => { s with sels := { s.sels with width := BitVec.ofNat 4 v } }
  readInto 4 fun v s => { s with sels := { s.sels with height := BitVec.ofNat 4 v } }
  readInto 4 fun v s => { s with sels := { s.sels with xoff := BitVec.ofNat 4 v } }
  readInto 4 fun v s => { s with sels := { s.sels with yoff := BitVec.ofNat 4 v } }
  readInto 4 fun v s => { s with sels := { s.sels with optb := BitVec.ofNat 4 v } }
  readInto 4 fun v s => { s with sels := { s.sels with codedb := BitVec.ofNat 4 v } }

/-- Opening the direction's cursor over the bytes [OFFT[i], OFFT[i+1]) (R162; a table out of order: log entry 12). -/
def openDirection (i : Nat) : Cmd Unit := withState fun s =>
  curOpen cMain (s.offset i).toNat ((s.offset (i + 1)).toNat - (s.offset i).toNat)

/-- DIRHDR (R160). -/
def dirhdrCmd : Cmd Unit := do
  raiseWhen (fun s => decide (s.stage = .idle)) .sequenceError
  raiseWhen (fun s => decide (s.header.dirCnt.toNat ≤ s.arg0.toNat)) .badIndex
  write fun s => s.startDirection s.arg0.toNat
  withState fun s => openDirection s.arg0.toNat
  readDirectionHeader
  withState fun s => forBelow s.header.fpd.toNat readFrameHeader
  withState fun s => forBelow s.header.fpd.toNat skipOptional
  write fun s => { s with extents := s.unionExtents }
  write fun s => { s with stage := .hdr }

/-- DIRHDR (R160). -/
def execDirhdr (s : State) : Host.Outcome State Fault Refusal := complete .stage dirhdrCmd s

end Sys2Proof.Machine
end

