-- ==== Sys2Proof/Machine/PixelCodes.lean ====
section
/-! DEFINITION. PCT, the pixel-code-table command (43_pixel_code_table.md R190 to R192). -/
namespace Sys2Proof.Machine

/-- Bit j of the presence map: when it is 1 the byte value j gets the next code (R190, R191). -/
def readPresence (j : Nat) : Cmd Unit := do
  let b ← readOrFail cMain 1
  write fun s => if b = 1 then s.putCode (BitVec.ofNat 8 j) else s

/-- PCT (R190). -/
def pctCmd : Cmd Unit := do
  raiseWhen (fun s => !stageReady .prefixed s) .sequenceError
  forBelow 256 readPresence
  write fun s => { s with stage := .pct }

/-- PCT (R190). -/
def execPct (s : State) : Host.Outcome State Fault Refusal := complete .stage pctCmd s

end Sys2Proof.Machine
end

