-- ==== Sys2Proof/Machine/CellRecon.lean ====
section
/-! DEFINITION. The cell-reconstructor commands (44_cell_reconstructor.md R200 to R225): PREFIX, SETUP, RECON and DECODE. -/
namespace Sys2Proof.Machine

/-! ### PREFIX -/

/-- `if p then x`. -/
def onlyIf (p : Bool) (x : Cmd Unit) : Cmd Unit := if p then x else pure ()

/-- PREFIX (R200): 1 to 4 length prefixes of 20 bits, as the flags call for (R99). -/
def prefixCmd : Cmd Unit := do
  raiseWhen (fun s => !stageReady .hdr s) .sequenceError
  withState fun s => onlyIf s.compEq (readInto 20 fun v s => { s with sizes := { s.sizes with eq := BitVec.ofNat 20 v } })
  readInto 20 fun v s => { s with sizes := { s.sizes with mask := BitVec.ofNat 20 v } }
  withState fun s => onlyIf s.hasRaw do
    readInto 20 fun v s => { s with sizes := { s.sizes with rawu := BitVec.ofNat 20 v } }
    readInto 20 fun v s => { s with sizes := { s.sizes with rawc := BitVec.ofNat 20 v } }
  write fun s => { s with stage := .prefixed }

/-- PREFIX (R200). -/
def execReadPrefix (s : State) : Host.Outcome State Fault Refusal := complete .stage prefixCmd s

/-! ### SETUP -/

/-- The number of 4-pixel cells that `hi − lo` pixels need: (hi − lo + 3) div 4 (R203; it fits 32 bits: log entry 12). -/
def cellCount (lo hi : DWord) : Word := BitVec.ofInt 32 ((hi.toInt - lo.toInt + 3) / 4)

/-- GW · GH, the number of cells of the grid (R203), computed exactly (R205). -/
def State.cells (s : State) : Nat := s.gw.toNat * s.gh.toNat

/-- One sub-stream carved from cursor 0 (R201, R202). -/
def carve (d : CursorIx) (n : State → Nat) : Cmd Unit := do
  withState fun s => curSliceN d cMain (n s)
  failIfErr cMain

/-- Every slot of the grid becomes NONE, LOG and MAP become empty (R206). -/
def State.emptyResults (s : State) : State :=
  { s with last := Store.clearBelow s.last s.cells, logCount := 0, mapCount := 0 }

/-- SETUP (R201). -/
def setupCmd : Cmd Unit := do
  raiseWhen (fun s => !stageReady .pct s) .sequenceError
  carve cEq fun s => if s.compEq then s.sizes.eq.toNat else 0
  carve cMask fun s => s.sizes.mask.toNat
  carve cRawu fun s => if s.hasRaw then s.sizes.rawu.toNat else 0
  carve cRawc fun s => if s.hasRaw then s.sizes.rawc.toNat else 0
  curSlice cInc cMain
  write fun s => { s with gw := cellCount s.extents.xmin s.extents.xmax }
  write fun s => { s with gh := cellCount s.extents.ymin s.extents.ymax }
  raiseWhen (fun s => decide (s.params.maxCells < s.cells)) .capacityExceeded
  write State.emptyResults
  write fun s => { s with stage := .setup }

/-- SETUP (R201). -/
def execSetup (s : State) : Host.Outcome State Fault Refusal := complete .stage setupCmd s

/-- The width in pixels of the cells of column `cx`: 4, but in the rightmost column the remainder of the direction's width,
or 4 if that is 0 (R204). No command uses it: every cell's entry has 4 slots. -/
def State.columnWidth (s : State) (cx : Nat) : Nat :=
  if cx + 1 = s.gw.toNat ∧ (s.extents.xmax.toInt - s.extents.xmin.toInt) % 4 ≠ 0 then
    ((s.extents.xmax.toInt - s.extents.xmin.toInt) % 4).toNat
  else 4

/-- The height in pixels of the cells of row `cy` (R204). -/
def State.rowHeight (s : State) (cy : Nat) : Nat :=
  if cy + 1 = s.gh.toNat ∧ (s.extents.ymax.toInt - s.extents.ymin.toInt) % 4 ≠ 0 then
    ((s.extents.ymax.toInt - s.extents.ymin.toInt) % 4).toNat
  else 4

/-! ### RECON -/

/-- The cell a pixel coordinate falls in, from the direction's origin (R208; both are on the direction's side, so the
difference is not negative: log entry 12). -/
def cellOf (v origin : Int) : Nat := ((v - origin) / 4).toNat

/-- The numbers lo .. hi. -/
def upTo (lo hi : Nat) : List Nat := List.range' lo (hi + 1 - lo)

/-- CoveredCells(f) (R208), in the order of R209: rows by increasing cy, within a row cells by increasing cx. -/
def State.coveredCells (s : State) (f : Nat) : List Nat :=
  if (s.frame f).width = 0 ∨ (s.frame f).height = 0 then []
  else
    let cx0 := cellOf (s.frame f).fxmin.toInt s.extents.xmin.toInt
    let cx1 := cellOf ((s.frame f).fxmax.toInt - 1) s.extents.xmin.toInt
    let cy0 := cellOf (s.frame f).fymin.toInt s.extents.ymin.toInt
    let cy1 := cellOf ((s.frame f).fymax.toInt - 1) s.extents.ymin.toInt
    (upTo cy0 cy1).flatMap fun cy => (upTo cx0 cx1).map fun cx => cy * s.gw.toNat + cx

/-- LogAppend (R220); the entry's index is LOGCOUNT as it was. A cell index past CELL's 32 bits: log entry 6. -/
def logAppend (e : Slots) (f k : Nat) : Cmd Unit := do
  raiseWhen (fun s => decide (s.logCount.toNat = s.params.logCap)) .capacityExceeded
  write fun s => s.putEntry ⟨e, BitVec.ofNat 8 f, BitVec.ofNat 32 k⟩

/-- MapAppend (R222). -/
def mapAppend (f k : Nat) (j : Word) (reused : Bool) : Cmd Unit := do
  raiseWhen (fun s => decide (s.mapCount.toNat = s.params.mapCap)) .capacityExceeded
  write fun s => s.putRecord ⟨BitVec.ofNat 8 f, BitVec.ofNat 32 k, j, reused⟩

/-- Step 3, the pixel mask (R213): 0xF when the cell has no prior entry, else 4 bits of the mask stream. -/
def readMask (h : Option Word) : Cmd (BitVec 4) :=
  match h with
  | none => pure 0xF
  | some _ => do
    let v ← readOrFail cMask 4
    pure (BitVec.ofNat 4 v)

/-- Step 5, the raw-usage bit (R215): 0 and nothing read when HASRAW = 0. -/
def readRawUsage : Cmd Bool := withState fun s =>
  match s.hasRaw with
  | false => pure false
  | true => do
    let v ← readOrFail cRawu 1
    pure (decide (v = 1))

/-- Steps 5 and 6: `n` more codes onto the stack `p` of the codes produced, the last one on top (R216 to R219). A code equal
to the one just before it is produced as 0 and ends the cell's codes (R217). -/
def readCodes (raw : Bool) : Nat → List Byte → Cmd (List Byte)
  | 0, p => pure p
  | n + 1, p =>
    match raw with
    | false => fun s => .error .incrementalUnsupported s
    | true => do
      let v ← readOrFail cRawc 8
      if p.head? = some (BitVec.ofNat 8 v) then pure (0 :: p) else readCodes raw n (BitVec.ofNat 8 v :: p)

/-- One slot of the new entry: where the mask bit is set the code on top of the stack, or 0 from an empty stack, else the
previous entry's slot (R219). -/
def fillSlot (set : Bool) (prev : Byte) (p : List Byte) : Byte := if set then p.headD 0 else prev

/-- The stack after a slot: popped where the mask bit is set (R219). -/
def afterSlot (set : Bool) (p : List Byte) : List Byte := if set then p.tail else p

/-- Step 7, the new entry's slots, visited s = 0, 1, 2, 3 (R219). -/
def buildSlots (mask : BitVec 4) (prev : Slots) (p : List Byte) : Slots :=
  let p1 := afterSlot (mask.getLsbD 0) p
  let p2 := afterSlot (mask.getLsbD 1) p1
  let p3 := afterSlot (mask.getLsbD 2) p2
  { s0 := fillSlot (mask.getLsbD 0) prev.s0 p
    s1 := fillSlot (mask.getLsbD 1) prev.s1 p1
    s2 := fillSlot (mask.getLsbD 2) prev.s2 p2
    s3 := fillSlot (mask.getLsbD 3) prev.s3 p3 }

/-- The previous entry's slots, or zeros (R210, R221). -/
def State.prevSlots (s : State) (h : Option Word) : Slots :=
  match h with
  | none => Slots.zero
  | some j => (s.entry j.toNat).slots

/-- Step 8: append the entry, make it the cell's last entry, and record it in the map (R220, R222). -/
def recordEntry (f k : Nat) (e : Slots) : Cmd Unit := withState fun s => do
  logAppend e f k
  write fun t => t.setLast k s.logCount
  mapAppend f k s.logCount false

/-- Steps 3 to 8 of the cell step, for a cell that is not reused. -/
def decodeCell (f k : Nat) (h : Option Word) : Cmd Unit := do
  let mask ← readMask h
  let raw ← readRawUsage
  let p ← readCodes raw (popcount4 mask) []
  withState fun s => recordEntry f k (buildSlots mask (s.prevSlots h) p)

/-- Step 2 for a cell with the prior entry `j` while COMPEQ = 1: the equal-cell bit (R212). -/
def equalCell (f k : Nat) (j : Word) : Cmd Unit := do
  let b ← readOrFail cEq 1
  if b = 1 then mapAppend f k j true else decodeCell f k (some j)

/-- CellStep(f, k) (R210). -/
def cellStep (f k : Nat) : Cmd Unit := withState fun s =>
  match s.lastEntry k, s.compEq with
  | some j, true => equalCell f k j
  | h, _ => decodeCell f k h

/-- One frame of RECON (R207, R209). -/
def reconFrame (f : Nat) : Cmd Unit := withState fun s => forEach (s.coveredCells f) (cellStep f)

/-- RECON (R207). -/
def reconCmd : Cmd Unit := do
  raiseWhen (fun s => !stageReady .setup s) .sequenceError
  withState fun s => forBelow s.header.fpd.toNat reconFrame
  write fun s => { s with stage := .done }

/-- RECON (R207). -/
def execRecon (s : State) : Host.Outcome State Fault Refusal := complete .stage reconCmd s

/-! ### DECODE -/

/-- DECODE (R225): the five stages in order; the first error ends it. -/
def decodeCmd : Cmd Unit := do
  dirhdrCmd
  prefixCmd
  pctCmd
  setupCmd
  reconCmd

/-- DECODE (R225). -/
def execDecodeDir (s : State) : Host.Outcome State Fault Refusal := complete .stage decodeCmd s

end Sys2Proof.Machine
end

