-- ==== Sys2Proof/Machine/FileHeader.lean ====
section
/-! DEFINITION. OPEN, the file-header command (41_file_header.md R140 to R147): the fixed header at bytes 0 to 17 and the
direction offset table from byte 18 (30_encoding.md R90, R91). -/
namespace Sys2Proof.Machine

/-- need(a, n) (R141): the stream has the bytes a to a + n − 1. -/
def need (a n : Nat) : Cmd Unit := raiseWhen (fun s => decide (s.srcLen.toNat < a + n)) .truncatedStream

/-- A write to the file-header registers from the bytes of SRC. -/
def putHeader (f : Memory → FileHeader → FileHeader) : Cmd Unit := write fun s => { s with header := f s.src s.header }

/-- Bytes 0 to 3 are SIGNATURE, byte 0 first (R142). -/
def signatureMatches (p : Signature) (m : Memory) : Bool :=
  decide (Memory.byte m 0 = p.byte0 ∧ Memory.byte m 1 = p.byte1 ∧ Memory.byte m 2 = p.byte2 ∧ Memory.byte m 3 = p.byte3)

/-- offset[i] as the file gives it: the 32-bit word at byte 18 + 4i (R90, R144). -/
def fileOffset (m : Memory) (i : Nat) : Word := BitVec.ofNat 32 (memRead m (18 + 4 * i) 4)

/-- One entry of the offset table (R141, R144). -/
def readOffset (i : Nat) : Cmd Unit := do
  need (18 + 4 * i) 4
  write fun s => s.setOffset i (fileOffset s.src i)

/-- Two neighbouring offsets are in order (R145). -/
def checkOffset (i : Nat) : Cmd Unit :=
  raiseWhen (fun s => decide ((s.offset (i + 1)).toNat ≤ (s.offset i).toNat)) .invalidOffsetTable

/-- OPEN (R141). -/
def openCmd : Cmd Unit := do
  write State.release
  raiseWhen (fun s => !s.srcValid) .sourceUnavailable
  need 0 4
  putHeader fun m h => { h with sig := BitVec.ofNat 32 (memRead m 0 4) }
  raiseWhen (fun s => !signatureMatches s.params.signature s.src) .malformedHeader
  need 4 1
  putHeader fun m h => { h with ver := Memory.byte m 4 }
  need 5 1
  putHeader fun m h => { h with dirCnt := Memory.byte m 5 }
  need 6 1
  putHeader fun m h => { h with fpd := Memory.byte m 6 }
  need 7 3
  putHeader fun m h => { h with rsv := BitVec.ofNat 24 (memRead m 7 3) }
  raiseWhen (fun s => decide (s.header.rsv ≠ 0)) .malformedHeader
  need 10 4
  putHeader fun m h => { h with tag := BitVec.ofNat 32 (memRead m 10 4) }
  need 14 4
  putHeader fun m h => { h with final := BitVec.ofNat 32 (memRead m 14 4) }
  withState fun s => forBelow s.header.dirCnt.toNat readOffset
  write fun s => s.setOffset s.header.dirCnt.toNat s.srcLen
  withState fun s => forBelow s.header.dirCnt.toNat checkOffset
  write fun s => { s with stage := .opened }

/-- OPEN (R141). -/
def execOpenFile (s : State) : Host.Outcome State Fault Refusal := complete .stage openCmd s

end Sys2Proof.Machine
end

