-- ==== Sys2Proof/Machine/Dispatch.lean ====
section
/-! DEFINITION. The meaning of every command: one arm per constructor of Instr. -/
namespace Sys2Proof.Machine

def exec (i : Instr) (s : State) : Host.Outcome State Fault Refusal :=
  match i with
  | .curopen c => Sys2Proof.Machine.execCuropen c s
  | .readbit c => Sys2Proof.Machine.execReadbit c s
  | .readbool c => Sys2Proof.Machine.execReadbool c s
  | .readuW0 c => Sys2Proof.Machine.execReaduW0 c s
  | .readuW1 c => Sys2Proof.Machine.execReaduW1 c s
  | .readuW2 c => Sys2Proof.Machine.execReaduW2 c s
  | .readuW4 c => Sys2Proof.Machine.execReaduW4 c s
  | .readuW6 c => Sys2Proof.Machine.execReaduW6 c s
  | .readuW8 c => Sys2Proof.Machine.execReaduW8 c s
  | .readuW10 c => Sys2Proof.Machine.execReaduW10 c s
  | .readuW12 c => Sys2Proof.Machine.execReaduW12 c s
  | .readuW14 c => Sys2Proof.Machine.execReaduW14 c s
  | .readuW16 c => Sys2Proof.Machine.execReaduW16 c s
  | .readuW20 c => Sys2Proof.Machine.execReaduW20 c s
  | .readuW24 c => Sys2Proof.Machine.execReaduW24 c s
  | .readuW26 c => Sys2Proof.Machine.execReaduW26 c s
  | .readuW28 c => Sys2Proof.Machine.execReaduW28 c s
  | .readuW30 c => Sys2Proof.Machine.execReaduW30 c s
  | .readuW32 c => Sys2Proof.Machine.execReaduW32 c s
  | .readsW0 c => Sys2Proof.Machine.execReadsW0 c s
  | .readsW1 c => Sys2Proof.Machine.execReadsW1 c s
  | .readsW2 c => Sys2Proof.Machine.execReadsW2 c s
  | .readsW4 c => Sys2Proof.Machine.execReadsW4 c s
  | .readsW6 c => Sys2Proof.Machine.execReadsW6 c s
  | .readsW8 c => Sys2Proof.Machine.execReadsW8 c s
  | .readsW10 c => Sys2Proof.Machine.execReadsW10 c s
  | .readsW12 c => Sys2Proof.Machine.execReadsW12 c s
  | .readsW14 c => Sys2Proof.Machine.execReadsW14 c s
  | .readsW16 c => Sys2Proof.Machine.execReadsW16 c s
  | .readsW20 c => Sys2Proof.Machine.execReadsW20 c s
  | .readsW24 c => Sys2Proof.Machine.execReadsW24 c s
  | .readsW26 c => Sys2Proof.Machine.execReadsW26 c s
  | .readsW28 c => Sys2Proof.Machine.execReadsW28 c s
  | .readsW30 c => Sys2Proof.Machine.execReadsW30 c s
  | .readsW32 c => Sys2Proof.Machine.execReadsW32 c s
  | .align c => Sys2Proof.Machine.execAlign c s
  | .skip c => Sys2Proof.Machine.execSkip c s
  | .size c => Sys2Proof.Machine.execSize c s
  | .slice d c => Sys2Proof.Machine.execSlice d c s
  | .openFile => Sys2Proof.Machine.execOpenFile s
  | .dirhdr => Sys2Proof.Machine.execDirhdr s
  | .readPrefix => Sys2Proof.Machine.execReadPrefix s
  | .pct => Sys2Proof.Machine.execPct s
  | .setup => Sys2Proof.Machine.execSetup s
  | .recon => Sys2Proof.Machine.execRecon s
  | .decodeDir => Sys2Proof.Machine.execDecodeDir s

end Sys2Proof.Machine
end

