-- ==== Sys2Proof/Machine/HostPort.lean ====
section
/-! DEFINITION. The host interface: the register map (10_state.md R21), the table port (R51), and what each host action does
(R22, R23, R30 to R32, 70_reset_and_hazards.md R280). -/
namespace Sys2Proof.Machine

/-- A write of the word `w` to CMD (R22): the command it encodes runs to completion; an illegal word only writes
ERR = IllegalCommand (R84). -/
def issue (w : Word) (s : State) : Host.Outcome State Fault Refusal :=
  match decode w with
  | .ok i => exec i s
  | .error _ => .next (takeError .bitReader .illegalCommand s)

/-- A write to SRCLEN (R31): ignored while SRC_VALID = 1 and when the value exceeds SRC_CAP. -/
def State.writeSrcLen (s : State) (v : Word) : State :=
  if s.srcValid || decide (s.params.srcCap < v.toNat) then s else { s with srcLen := v }

/-- A write to SRCCTL (R32): bit 0 sets SRC_VALID, or clears it and releases the file. -/
def State.writeSrcCtl (s : State) (v : Word) : State :=
  if v.getLsbD 0 then { s with srcValid := true } else { s.release with srcValid := false }

/-- A host write to register `no` (R21). A register of 32 bits takes the low 32 bits (log entry 3); registers marked R and
reserved numbers ignore writes. -/
def hostWriteReg (no : Nat) (v : DWord) (s : State) : Host.Outcome State Fault Refusal :=
  match no with
  | 0x00 => issue (v.setWidth 32) s
  | 0x01 => .next { s with arg0 := v }
  | 0x02 => .next { s with arg1 := v }
  | 0x05 => .next (s.writeSrcLen (v.setWidth 32))
  | 0x06 => .next (s.writeSrcCtl (v.setWidth 32))
  | _ => .next s

/-- A host write to a table space (R51): only SRC, space 0, is writable, and only while SRC_VALID = 0 (R30). A write to
another space is ignored (log entry 14); an address that does not exist is a fault (log entry 7). -/
def hostWriteTable (space index : Nat) (v : DWord) (s : State) : Host.Outcome State Fault Refusal :=
  if space ≠ 0 ∨ s.srcValid = true then .next s
  else if s.params.srcCap ≤ index then .fault (.srcAddressAbsent index)
  else .next { s with src := Memory.setByte s.src index (v.setWidth 8) }

/-- The reset input (R280): every piece of state takes its reset value; the parameters are fixed, and the host's later
actions still come (log entry 10). -/
def hostReset (s : State) : State := { State.resetWith s.params with hostQueue := s.hostQueue }

/-- What a host action does. -/
def hostAct (a : HostAction) (s : State) : Host.Outcome State Fault Refusal :=
  match a with
  | .writeReg no v => hostWriteReg no v s
  | .writeTable space index v => hostWriteTable space index v s
  | .reset => .next (hostReset s)

/-! ### What the host reads: no steps, since a read has no side effect (log entry 13) -/

/-- A field of a cursor register: registers 0x28 + 4c + field (R21). -/
def cursorField (k : Cursor) (field : Nat) : DWord :=
  match field with
  | 0 => k.base
  | 1 => k.pos
  | 2 => k.len
  | _ => (BitVec.ofBool k.err).setWidth 64

/-- What a host read of register `no` gives (R21): a narrower register has 0 above its bits; CMD and reserved numbers read
as 0. -/
def readReg (s : State) (no : Nat) : DWord :=
  match no with
  | 0x01 => s.arg0
  | 0x02 => s.arg1
  | 0x03 => s.res
  | 0x04 => (statusWord s).setWidth 64
  | 0x05 => s.srcLen.setWidth 64
  | 0x06 => (BitVec.ofBool s.srcValid).setWidth 64
  | 0x08 => s.header.sig.setWidth 64
  | 0x09 => s.header.ver.setWidth 64
  | 0x0A => s.header.dirCnt.setWidth 64
  | 0x0B => s.header.fpd.setWidth 64
  | 0x0C => s.header.rsv.setWidth 64
  | 0x0D => s.header.tag.setWidth 64
  | 0x0E => s.header.final.setWidth 64
  | 0x10 => s.dirIdx.setWidth 64
  | 0x11 => s.outSize.setWidth 64
  | 0x12 => (flagsField s.hasRaw s.compEq).setWidth 64
  | 0x13 => (selsField s.sels).setWidth 64
  | 0x14 => s.extents.xmin
  | 0x15 => s.extents.xmax
  | 0x16 => s.extents.ymin
  | 0x17 => s.extents.ymax
  | 0x18 => s.gw.setWidth 64
  | 0x19 => s.gh.setWidth 64
  | 0x1A => s.sizes.eq.setWidth 64
  | 0x1B => s.sizes.mask.setWidth 64
  | 0x1C => s.sizes.rawu.setWidth 64
  | 0x1D => s.sizes.rawc.setWidth 64
  | 0x1E => s.pctCount.setWidth 64
  | 0x1F => s.logCount.setWidth 64
  | 0x20 => s.mapCount.setWidth 64
  | n =>
    if 0x28 ≤ n ∧ n < 0x48 then cursorField (s.cursor (Fin.ofNat 8 ((n - 0x28) / 4))) ((n - 0x28) % 4)
    else 0

/-- The fields of a frame header (R40). -/
inductive FhField where
  | var0 | width | height | xoff | yoff | optb | codedb | bottomUp | fxmin | fxmax | fymin | fymax
deriving DecidableEq, Repr

/-- The fields of a log entry (R44). -/
inductive LogField where
  | slot (n : Fin 4)
  | frame
  | cell
deriving DecidableEq, Repr

/-- The fields of a map record (R46). -/
inductive MapField where
  | frame | cell | entry | reused
deriving DecidableEq, Repr

/-- An address of the table port: space, index and field (R51; the spec gives the fields no numbers). -/
inductive TablePort where
  | src (a : Nat)
  | offt (i : Nat)
  | fh (f : Nat) (field : FhField)
  | pct (k : Nat)
  | last (k : Nat)
  | log (j : Nat) (field : LogField)
  | map (j : Nat) (field : MapField)
deriving DecidableEq, Repr

/-- The space numbers of R51. -/
def tableSpace (t : TablePort) : Nat :=
  match t with
  | .src _ => 0
  | .offt _ => 1
  | .fh _ _ => 2
  | .pct _ => 3
  | .last _ => 4
  | .log _ _ => 5
  | .map _ _ => 6

/-- A field of a frame header as the table port shows it: its bits, 0 above. -/
def fhField (h : FrameHeader) (field : FhField) : DWord :=
  match field with
  | .var0 => h.var0.setWidth 64
  | .width => h.width.setWidth 64
  | .height => h.height.setWidth 64
  | .xoff => h.xoff.setWidth 64
  | .yoff => h.yoff.setWidth 64
  | .optb => h.optb.setWidth 64
  | .codedb => h.codedb.setWidth 64
  | .bottomUp => (BitVec.ofBool h.bottomUp).setWidth 64
  | .fxmin => h.fxmin
  | .fxmax => h.fxmax
  | .fymin => h.fymin
  | .fymax => h.fymax

/-- A field of a log entry. -/
def logField (e : LogEntry) (field : LogField) : DWord :=
  match field with
  | .slot 0 => e.slots.s0.setWidth 64
  | .slot 1 => e.slots.s1.setWidth 64
  | .slot 2 => e.slots.s2.setWidth 64
  | .slot 3 => e.slots.s3.setWidth 64
  | .frame => e.frame.setWidth 64
  | .cell => e.cell.setWidth 64

/-- A field of a map record. -/
def mapField (r : MapRecord) (field : MapField) : DWord :=
  match field with
  | .frame => r.frame.setWidth 64
  | .cell => r.cell.setWidth 64
  | .entry => r.entry.setWidth 64
  | .reused => (BitVec.ofBool r.reused).setWidth 64

/-- A slot of LAST as the table port shows it: NONE reads as 0xFFFFFFFF (R43). -/
def lastField (h : Option Word) : DWord :=
  match h with
  | none => 0xFFFFFFFF
  | some j => j.setWidth 64

/-- What a host read through the table port gives (R51; the fields' names and the zeros above them: log entry 9): an index
beyond the table's size reads 0. -/
def readTable (s : State) (t : TablePort) : DWord :=
  match t with
  | .src a => if a < s.params.srcCap then (Memory.byte s.src a).setWidth 64 else 0
  | .offt i => if i < 257 then (s.offset i).setWidth 64 else 0
  | .fh f field => if f < 255 then fhField (s.frame f) field else 0
  | .pct k => if k < 256 then (s.code k).setWidth 64 else 0
  | .last k => if k < s.params.maxCells then lastField (s.lastEntry k) else 0
  | .log j field => if j < s.params.logCap then logField (s.entry j) field else 0
  | .map j field => if j < s.params.mapCap then mapField (s.record j) field else 0

end Sys2Proof.Machine
end

