-- ==== Sys2Proof/Machine/Step.lean ====
section
/-! DEFINITION. One step of the core: the host's next action happens (R76). The core fetches no instructions (R20, R78): a
command comes from a host write to CMD. With no action coming the core waits and holds its state (R265, R280). -/
namespace Sys2Proof.Machine

/-- One step. -/
def step (s : State) : Host.Outcome State Fault Refusal :=
  match s.hostQueue with
  | [] => .next s
  | a :: rest => hostAct a { s with hostQueue := rest }

/-- `s` with a host write to CMD as the host's next action: the command word whose low `nbits` bits are `w`'s (R80: one
32-bit word). -/
def State.withFetchWord (s : State) (nbits w : Nat) : State :=
  { s with hostQueue := .writeReg 0 (BitVec.ofNat 64 (w % 2 ^ nbits)) :: s.hostQueue }

end Sys2Proof.Machine
end

