-- ==== Sys2Proof/Safety.lean ====
section
/-! DEFINITION. The terms claims are made in: which results of the core are valid (10_state.md R15, R48), what the commands
write, and the invariants of the state (20_memory.md R61, 41_file_header.md R145, 43_pixel_code_table.md R191, 10_state.md
R24, R30, R45, R47, R49; 42_direction_header.md R166, R168). -/
namespace Sys2Proof.Machine

/-- Which bit-reader command this is, by the cursor it reads or makes (R110, R119); `none` for a stage command. -/
def bitReaderCursor (i : Instr) : Option CursorIx :=
  match i with
  | .curopen c | .readbit c | .readbool c => some c
  | .readuW0 c | .readuW1 c | .readuW2 c | .readuW4 c | .readuW6 c | .readuW8 c | .readuW10 c | .readuW12 c => some c
  | .readuW14 c | .readuW16 c | .readuW20 c | .readuW24 c | .readuW26 c | .readuW28 c | .readuW30 c | .readuW32 c => some c
  | .readsW0 c | .readsW1 c | .readsW2 c | .readsW4 c | .readsW6 c | .readsW8 c | .readsW10 c | .readsW12 c => some c
  | .readsW14 c | .readsW16 c | .readsW20 c | .readsW24 c | .readsW26 c | .readsW28 c | .readsW30 c | .readsW32 c => some c
  | .align c | .skip c | .size c => some c
  | .slice d _ => some d
  | .openFile | .dirhdr | .readPrefix | .pct | .setup | .recon | .decodeDir => none

/-- The commands that make cursors (R25): the cursors each one makes or clears. -/
def makesCursor (i : Instr) (c : CursorIx) : Bool :=
  match i with
  | .curopen d => d == c
  | .slice d _ => d == c
  | .dirhdr => decide (c.val ≤ 5)
  | .setup => decide (1 ≤ c.val ∧ c.val ≤ 5)
  | .decodeDir => decide (c.val ≤ 5)
  | .readbit _ | .readbool _ => false
  | .readuW0 _ | .readuW1 _ | .readuW2 _ | .readuW4 _ | .readuW6 _ | .readuW8 _ | .readuW10 _ | .readuW12 _ => false
  | .readuW14 _ | .readuW16 _ | .readuW20 _ | .readuW24 _ | .readuW26 _ | .readuW28 _ | .readuW30 _ | .readuW32 _ => false
  | .readsW0 _ | .readsW1 _ | .readsW2 _ | .readsW4 _ | .readsW6 _ | .readsW8 _ | .readsW10 _ | .readsW12 _ => false
  | .readsW14 _ | .readsW16 _ | .readsW20 _ | .readsW24 _ | .readsW26 _ | .readsW28 _ | .readsW30 _ | .readsW32 _ => false
  | .align _ | .skip _ | .size _ => false
  | .openFile | .readPrefix | .pct | .recon => false

/-- The direction's decode has succeeded (R15, R48): LOG, MAP and LAST are output. -/
def State.outputValid (s : State) : Bool := decide (s.stage = .done) && !s.failed

/-- The outcome of the last command was success (R29). -/
def State.lastOk (s : State) : Bool := decide (s.err = none)

/-! ### Invariants -/

/-- Every sparse store of the state has its canonical form, and SRC lists only addresses below SRC_CAP (R30). -/
def StoresCanonical (s : State) : Prop :=
  Memory.wf s.params.srcCap s.src ∧ Store.wf 0 s.offt ∧ Store.wf FrameHeader.zero s.fh ∧ Store.wf 0 s.pct
    ∧ Store.wf none s.last ∧ Store.wf LogEntry.zero s.log ∧ Store.wf MapRecord.zero s.map

/-- A cursor's position is inside its range and its range inside a source memory of `cap` bytes (R24, R61). -/
def CursorInRange (cap : Nat) (k : Cursor) : Prop := k.pos.toNat ≤ k.len.toNat ∧ k.base.toNat + k.len.toNat ≤ 8 * cap

/-- SRCLEN is at most SRC_CAP (R31), and every cursor is in range (R24, R61). -/
def CursorsInRange (s : State) : Prop :=
  s.srcLen.toNat ≤ s.params.srcCap ∧ ∀ c, CursorInRange s.params.srcCap (s.cursor c)

/-- While a file is open SRC_VALID is 1 and the offset table is strictly increasing up to SRCLEN (R78, R145). -/
def OffsetsOrdered (s : State) : Prop :=
  s.stage ≠ .idle →
    s.srcValid = true ∧ (∀ i, i < s.header.dirCnt.toNat → (s.offset i).toNat < (s.offset (i + 1)).toNat)
      ∧ s.offset s.header.dirCnt.toNat = s.srcLen

/-- PCT is empty before the PCT command runs, and from stage PCT on it is strictly increasing below PCTCOUNT, which is at
most 256 (R42, R190, R191). -/
def CodesOrdered (s : State) : Prop :=
  ((s.stage = .hdr ∨ s.stage = .prefixed) ∧ s.failed = false → s.pctCount = 0) ∧
  (s.stage = .pct ∨ s.stage = .setup ∨ s.stage = .done →
    s.pctCount.toNat ≤ 256 ∧ ∀ i j, i < j → j < s.pctCount.toNat → (s.code i).toNat < (s.code j).toNat)

/-- ⌈(hi − lo)/4⌉ for lo ≤ hi (R203). -/
def cellsAcross (lo hi : DWord) : Nat := ((hi.toInt - lo.toInt + 3) / 4).toNat

/-- The direction extents are in order and their grid fits the 32-bit registers GW and GH (R168, R203). -/
def extentsFit (e : Extents) : Prop :=
  e.xmin.toInt ≤ e.xmax.toInt ∧ e.ymin.toInt ≤ e.ymax.toInt ∧ cellsAcross e.xmin e.xmax < 2 ^ 32
    ∧ cellsAcross e.ymin e.ymax < 2 ^ 32

/-- The frame's pixel rectangle is WIDTH × HEIGHT and lies inside the direction's (R166, R168). -/
def frameInside (e : Extents) (h : FrameHeader) : Prop :=
  h.fxmax.toInt = h.fxmin.toInt + h.width.toNat ∧ h.fymax.toInt = h.fymin.toInt + h.height.toNat ∧
  e.xmin.toInt ≤ h.fxmin.toInt ∧ h.fxmax.toInt ≤ e.xmax.toInt ∧ e.ymin.toInt ≤ h.fymin.toInt ∧ h.fymax.toInt ≤ e.ymax.toInt

/-- From stage HDR on the direction extents are in order, their grid fits GW and GH, and every frame lies inside them; from
stage SETUP on GW and GH are that grid's size (R166, R168, R203). -/
def GeometrySound (s : State) : Prop :=
  (s.stage = .hdr ∨ s.stage = .prefixed ∨ s.stage = .pct ∨ s.stage = .setup ∨ s.stage = .done →
    extentsFit s.extents ∧ ∀ f, f < s.header.fpd.toNat → frameInside s.extents (s.frame f)) ∧
  (s.stage = .setup ∨ s.stage = .done →
    s.gw.toNat = cellsAcross s.extents.xmin s.extents.xmax ∧ s.gh.toNat = cellsAcross s.extents.ymin s.extents.ymax)

/-- LOG and MAP are within their capacities (R45, R47); and from stage SETUP on the grid is within MAX_CELLS (R205), every
slot of LAST in the grid that is not NONE is an entry of the log for its own cell (CELL has 32 bits, R44; a larger grid: log
entry 6), and there are at least as many map records as log entries (R49). -/
def LogSound (s : State) : Prop :=
  s.logCount.toNat ≤ s.params.logCap ∧ s.mapCount.toNat ≤ s.params.mapCap ∧
  (s.stage = .setup ∨ s.stage = .done →
    s.cells ≤ s.params.maxCells ∧ s.logCount.toNat ≤ s.mapCount.toNat ∧
    ∀ k h, k < s.cells → s.lastEntry k = some h → h.toNat < s.logCount.toNat ∧ (s.entry h.toNat).cell = BitVec.ofNat 32 k)

end Sys2Proof.Machine
end

