-- ==== Sys2Proof/Certificates/Slice0/Obligations.lean ====
section
/-! DEFINITION. The statements for the provers, one def Obligations.<Name> : Prop each, with the terms they use. -/
namespace Sys2Proof.Claims

open Sys2Proof.Machine

/-! ### Terms of the statements -/

/-- The commands that read an unsigned field through cursor `c`, with their widths: READBIT, READBOOL and READU (R94, R112 to
R114). -/
def unsignedReads (c : CursorIx) : List (Instr × Nat) :=
  [(.readbit c, 1), (.readbool c, 1), (.readuW0 c, 0), (.readuW1 c, 1), (.readuW2 c, 2), (.readuW4 c, 4), (.readuW6 c, 6),
   (.readuW8 c, 8), (.readuW10 c, 10), (.readuW12 c, 12), (.readuW14 c, 14), (.readuW16 c, 16), (.readuW20 c, 20),
   (.readuW24 c, 24), (.readuW26 c, 26), (.readuW28 c, 28), (.readuW30 c, 30), (.readuW32 c, 32)]

/-- The commands that read a signed field through cursor `c`, with their widths: READS (R94, R115). -/
def signedReads (c : CursorIx) : List (Instr × Nat) :=
  [(.readsW0 c, 0), (.readsW1 c, 1), (.readsW2 c, 2), (.readsW4 c, 4), (.readsW6 c, 6), (.readsW8 c, 8), (.readsW10 c, 10),
   (.readsW12 c, 12), (.readsW14 c, 14), (.readsW16 c, 16), (.readsW20 c, 20), (.readsW24 c, 24), (.readsW26 c, 26),
   (.readsW28 c, 28), (.readsW30 c, 30), (.readsW32 c, 32)]

/-- The bit address of the cursor's next bit (R24). -/
def nextBit (k : Cursor) : Nat := k.base.toNat + k.pos.toNat

/-- The cursor `k` moved to position `p`. -/
def movedTo (k : Cursor) (p : Nat) : Cursor := { k with pos := BitVec.ofNat 64 p }

/-- The cursor `k` in error, not moved (R70). -/
def inError (k : Cursor) : Cursor := { k with err := true }

/-- The next `n` bits of cursor `c` can be read (R70). -/
abbrev canRead (s : State) (c : CursorIx) (n : Nat) : Prop :=
  (s.cursor c).err = false ∧ (s.cursor c).pos.toNat + n ≤ (s.cursor c).len.toNat

/-- The next bit of cursor `c` can be read and is `b`. -/
abbrev nextBitIs (s : State) (c : CursorIx) (b : Bool) : Prop := canRead s c 1 ∧ srcBit s.src (nextBit (s.cursor c)) = b

/-- OFFT[j] as the file gives it, with the synthetic entry SRCLEN from index `n` on (R91). -/
def fileOffsets (m : Memory) (srcLen n j : Nat) : Nat := if j < n then memRead m (18 + 4 * j) 4 else srcLen

/-- The file starts with SIGNATURE (R142) and its reserved bytes are 0 (R143). -/
def headerLegal (s : State) : Prop :=
  Memory.byte s.src 0 = s.params.signature.byte0 ∧ Memory.byte s.src 1 = s.params.signature.byte1
    ∧ Memory.byte s.src 2 = s.params.signature.byte2 ∧ Memory.byte s.src 3 = s.params.signature.byte3
    ∧ Memory.byte s.src 7 = 0 ∧ Memory.byte s.src 8 = 0 ∧ Memory.byte s.src 9 = 0

/-- The file-header registers of a file whose reserved bytes are 0 (R33, R90). -/
def fileHeaderOf (m : Memory) : FileHeader where
  sig := BitVec.ofNat 32 (memRead m 0 4)
  ver := Memory.byte m 4
  dirCnt := Memory.byte m 5
  fpd := Memory.byte m 6
  rsv := 0
  tag := BitVec.ofNat 32 (memRead m 10 4)
  final := BitVec.ofNat 32 (memRead m 14 4)

/-- The selectors of the direction whose first bit is at bit address `b` (R93). -/
def selectorsAt (m : Memory) (b : Nat) : Selectors where
  var0 := BitVec.ofNat 4 (fieldAt m (b + 34) 4)
  width := BitVec.ofNat 4 (fieldAt m (b + 38) 4)
  height := BitVec.ofNat 4 (fieldAt m (b + 42) 4)
  xoff := BitVec.ofNat 4 (fieldAt m (b + 46) 4)
  yoff := BitVec.ofNat 4 (fieldAt m (b + 50) 4)
  optb := BitVec.ofNat 4 (fieldAt m (b + 54) 4)
  codedb := BitVec.ofNat 4 (fieldAt m (b + 58) 4)

/-- The bit position of the optionalBytes field inside a frame header (R96). -/
def optbAt (x : Selectors) : Nat :=
  selWidth x.var0 + selWidth x.width + selWidth x.height + selWidth x.xoff + selWidth x.yoff

/-- The fields of the frame header `h` are those of the bits from bit address `p` on (R96, R105, R165). -/
def FieldsFrom (m : Memory) (p : Nat) (x : Selectors) (h : FrameHeader) : Prop :=
  h.var0 = BitVec.ofNat 32 (fieldAt m p (selWidth x.var0)) ∧
  h.width = BitVec.ofNat 32 (fieldAt m (p + selWidth x.var0) (selWidth x.width)) ∧
  h.height = BitVec.ofNat 32 (fieldAt m (p + selWidth x.var0 + selWidth x.width) (selWidth x.height)) ∧
  h.xoff = (BitVec.ofNat (selWidth x.xoff)
    (fieldAt m (p + selWidth x.var0 + selWidth x.width + selWidth x.height) (selWidth x.xoff))).signExtend 32 ∧
  h.yoff = (BitVec.ofNat (selWidth x.yoff)
    (fieldAt m (p + selWidth x.var0 + selWidth x.width + selWidth x.height + selWidth x.xoff) (selWidth x.yoff))).signExtend 32 ∧
  h.optb = BitVec.ofNat 32 (fieldAt m (p + optbAt x) (selWidth x.optb)) ∧
  h.codedb = BitVec.ofNat 32 (fieldAt m (p + optbAt x + selWidth x.optb) (selWidth x.codedb)) ∧
  h.bottomUp = srcBit m (p + optbAt x + selWidth x.optb + selWidth x.codedb)

/-- Where the optional data of the frames 0 .. n − 1 ends, when the frame headers end at position `p` and frame `f` has `g f`
bytes: each non-empty block is aligned to a byte (R98, R167). -/
def optionalEnd (g : Nat → Nat) (p : Nat) : Nat → Nat
  | 0 => p
  | n + 1 => if g n = 0 then optionalEnd g p n else 8 * ((optionalEnd g p n + 7) / 8) + 8 * g n

/-- Where the header part of the direction at bit address `b` with `n` frames ends, as a position in the direction (R169). -/
def headersEnd (m : Memory) (b n : Nat) : Nat :=
  optionalEnd (fun f => fieldAt m (b + 62 + f * frameHeaderWidth (selectorsAt m b) + optbAt (selectorsAt m b))
      (selWidth (selectorsAt m b).optb))
    (62 + n * frameHeaderWidth (selectorsAt m b)) n

/-- The `w`-bit field at position `p` of the direction of `n` bits at bit address `b`; 0 when the direction ends before the
field does, so that it is not read (R160, R161). -/
def fieldWithin (m : Memory) (b n p w : Nat) : Nat := if p + w ≤ n then fieldAt m (b + p) w else 0

/-- The selectors of the direction of `n` bits at bit address `b`, those not read being 0 (R93, R161). -/
def selectorsWithin (m : Memory) (b n : Nat) : Selectors where
  var0 := BitVec.ofNat 4 (fieldWithin m b n 34 4)
  width := BitVec.ofNat 4 (fieldWithin m b n 38 4)
  height := BitVec.ofNat 4 (fieldWithin m b n 42 4)
  xoff := BitVec.ofNat 4 (fieldWithin m b n 46 4)
  yoff := BitVec.ofNat 4 (fieldWithin m b n 50 4)
  optb := BitVec.ofNat 4 (fieldWithin m b n 54 4)
  codedb := BitVec.ofNat 4 (fieldWithin m b n 58 4)

/-- The frame header `h` at position `p` of the direction of `n` bits at bit address `b`: every field the direction holds is the
stream's, every other is 0; the extents are those of R166 when the whole header is there, else 0 (R96, R160, R161). -/
def FieldsWithin (m : Memory) (b n p : Nat) (x : Selectors) (h : FrameHeader) : Prop :=
  h.var0 = BitVec.ofNat 32 (fieldWithin m b n p (selWidth x.var0)) ∧
  h.width = BitVec.ofNat 32 (fieldWithin m b n (p + selWidth x.var0) (selWidth x.width)) ∧
  h.height = BitVec.ofNat 32 (fieldWithin m b n (p + selWidth x.var0 + selWidth x.width) (selWidth x.height)) ∧
  h.xoff = (BitVec.ofNat (selWidth x.xoff)
    (fieldWithin m b n (p + selWidth x.var0 + selWidth x.width + selWidth x.height) (selWidth x.xoff))).signExtend 32 ∧
  h.yoff = (BitVec.ofNat (selWidth x.yoff)
    (fieldWithin m b n (p + selWidth x.var0 + selWidth x.width + selWidth x.height + selWidth x.xoff)
      (selWidth x.yoff))).signExtend 32 ∧
  h.optb = BitVec.ofNat 32 (fieldWithin m b n (p + optbAt x) (selWidth x.optb)) ∧
  h.codedb = BitVec.ofNat 32 (fieldWithin m b n (p + optbAt x + selWidth x.optb) (selWidth x.codedb)) ∧
  h.bottomUp = decide (fieldWithin m b n (p + optbAt x + selWidth x.optb + selWidth x.codedb) 1 = 1) ∧
  (p + frameHeaderWidth x ≤ n → frameExtents h = h) ∧
  (n < p + frameHeaderWidth x → h.fxmin = 0 ∧ h.fxmax = 0 ∧ h.fymin = 0 ∧ h.fymax = 0)

/-- The prerequisites of DIRHDR and DECODE hold: a file is open and ARG0 is below DIRCNT (R160). -/
def directionSelected (s : State) : Prop := s.stage ≠ .idle ∧ s.arg0.toNat < s.header.dirCnt.toNat

/-- Direction ARG0 is the bytes `a` to `a + n − 1` of SRC, inside the stream (R91, R162). -/
def directionBytes (s : State) (a n : Nat) : Prop :=
  (s.offset s.arg0.toNat).toNat = a ∧ (s.offset (s.arg0.toNat + 1)).toNat = a + n ∧ a + n ≤ s.srcLen.toNat

/-- The number of 20-bit length prefixes (R99). -/
def prefixCount (s : State) : Nat := s.compEq.toNat + 1 + 2 * s.hasRaw.toNat

/-- The lengths SETUP carves, 0 for a stream whose flag is 0 (R201). -/
def eqLen (s : State) : Nat := if s.compEq then s.sizes.eq.toNat else 0
/-- The length of the pixel-mask stream (R201). -/
def maskLen (s : State) : Nat := s.sizes.mask.toNat
/-- The length of the raw-usage stream (R201). -/
def rawuLen (s : State) : Nat := if s.hasRaw then s.sizes.rawu.toNat else 0
/-- The length of the raw-codes stream (R201). -/
def rawcLen (s : State) : Nat := if s.hasRaw then s.sizes.rawc.toNat else 0

/-- The lengths of the four sub-streams SETUP carves from cursor 0, in order (R201). -/
def subLens (s : State) : List Nat := [eqLen s, maskLen s, rawuLen s, rawcLen s]

/-- How many bits the first `i` of them have together. -/
def lensBefore (s : State) (i : Nat) : Nat := ((subLens s).take i).sum

/-- Cursor `c + 1` as SETUP carves it, the sub-stream number `c` of cursor 0 = `k` (R201, R73). -/
def carved (s : State) (k : Cursor) (c : Nat) : Cursor :=
  ⟨k.base + k.pos + BitVec.ofNat 64 (lensBefore s c), 0, BitVec.ofNat 64 ((subLens s).getD c 0), false⟩

/-- The first sub-stream that does not fit on cursor 0 = `k` is number `i` (R201). -/
abbrev firstMisfit (s : State) (k : Cursor) (i : Nat) : Prop :=
  (i = 0 ∨ (k.err = false ∧ k.pos.toNat + lensBefore s i ≤ k.len.toNat)) ∧
  (k.err = true ∨ k.len.toNat < k.pos.toNat + lensBefore s (i + 1))

/-- The cell steps of RECON in order: frame by frame, the covered cells of each (R207, R209). -/
def cellSteps (s : State) : List (Nat × Nat) :=
  (List.range s.header.fpd.toNat).flatMap fun f => (s.coveredCells f).map fun k => (f, k)

/-- RECON's frames as one list of cell steps. -/
def runSteps (l : List (Nat × Nat)) : Cmd Unit := forEach l fun p => cellStep p.1 p.2

/-- How many steps of a list of cells are of a cell that has an entry by then: one of before (`seen`), or that of an earlier
step. -/
def revisits (seen : Nat → Bool) : List Nat → Nat
  | [] => 0
  | k :: ks => (seen k).toNat + revisits (fun j => seen j || j == k) ks

/-- How many cell steps of RECON are of a cell that has an entry by then (R211). -/
def revisitsOf (s : State) : Nat := revisits (fun k => (s.lastEntry k).isSome) ((cellSteps s).map Prod.snd)

/-! ### One cell step (R210). `h` is the cell's last-entry handle -/

/-- An equal-cell bit is read: the cell has a prior entry and COMPEQ = 1 (R212). -/
def equalBitDue (s : State) (h : Option Word) : Bool := h.isSome && s.compEq

/-- How many bits of the mask stream are read (R213). -/
def maskBits (h : Option Word) : Nat := if h.isSome then 4 else 0

/-- Step 3 is reached: no equal-cell bit is due, or it is 0 (R211, R212). -/
abbrev reachesMask (s : State) (k : Nat) (h : Option Word) : Prop :=
  s.lastEntry k = h ∧ (equalBitDue s h = true → nextBitIs s cEq false)

/-- The pixel mask: 4 bits of the mask stream when there is a prior entry, else 0xF (R213). -/
def cellMask (s : State) (h : Option Word) : BitVec 4 :=
  if h.isSome then BitVec.ofNat 4 (fieldAt s.src (nextBit (s.cursor cMask)) 4) else 0xF

/-- Step 5 is reached: step 3 is, and the mask can be read (R213). -/
abbrev reachesCodes (s : State) (k : Nat) (h : Option Word) : Prop :=
  reachesMask s k h ∧ (h.isSome = true → canRead s cMask 4)

/-- The cell is incremental: HASRAW = 0, or its raw-usage bit is 0 (R215). -/
abbrev incremental (s : State) : Prop := s.hasRaw = false ∨ nextBitIs s cRawu false

/-- Cursor `c` after `n` more of its bits. -/
def usedOn (s : State) (c : CursorIx) (n : Nat) : Cursor := movedTo (s.cursor c) ((s.cursor c).pos.toNat + n)

/-- The cursors after `e`, `m`, `u` and `r` more bits of the EQ, MASK, RAWU and RAWC streams. -/
def consumed (s : State) (e m u r : Nat) : Vector Cursor 8 :=
  (((s.cursors.set cEq (usedOn s cEq e)).set cMask (usedOn s cMask m)).set cRawu (usedOn s cRawu u)).set cRawc (usedOn s cRawc r)

/-- Step 8 with its two capacity checks (R220, R222): what the cell step of cell `k` of frame `f` answers from state `s` when
the entry built has the slots `e` and the cursors then are `cs`. A full LOG is found before anything is appended, a full MAP
after the entry is appended and the handle written. That CELL is the low 32 bits of a cell index of 2^32 or more is the model's
(log entry 6, DEDUCED). -/
def AppendsEntry (s : State) (f k : Nat) (e : Slots) (cs : Vector Cursor 8) : Prop :=
  (s.logCount.toNat = s.params.logCap → (cellStep f k).run s = .error .capacityExceeded { s with cursors := cs }) ∧
  (s.logCount.toNat ≠ s.params.logCap → ∃ t : State,
    t.entry s.logCount.toNat = ⟨e, BitVec.ofNat 8 f, BitVec.ofNat 32 k⟩ ∧
    (∀ j, j ≠ s.logCount.toNat → t.entry j = s.entry j) ∧
    t.lastEntry k = some s.logCount ∧ (∀ j, j ≠ k → t.lastEntry j = s.lastEntry j) ∧
    (s.mapCount.toNat = s.params.mapCap →
      (cellStep f k).run s = .error .capacityExceeded t ∧
      t = { s with cursors := cs, log := t.log, logCount := s.logCount + 1, last := t.last }) ∧
    (s.mapCount.toNat ≠ s.params.mapCap →
      (cellStep f k).run s = .ok () t ∧
      t.record s.mapCount.toNat = ⟨BitVec.ofNat 8 f, BitVec.ofNat 32 k, s.logCount, false⟩ ∧
      (∀ j, j ≠ s.mapCount.toNat → t.record j = s.record j) ∧
      t = { s with
        cursors := cs
        log := t.log
        logCount := s.logCount + 1
        last := t.last
        map := t.map
        mapCount := s.mapCount + 1 }))

/-- The first code the raw-codes stream holds, and the ones after it: code number `i` from the cursor's position (R216). -/
def rawCode (s : State) (i : Nat) : Byte := BitVec.ofNat 8 (fieldAt s.src (nextBit (s.cursor cRawc) + 8 * i) 8)

/-- The slot `i` of four slots. -/
def slotOf (e : Slots) (i : Fin 4) : Byte :=
  match i with
  | 0 => e.s0
  | 1 => e.s1
  | 2 => e.s2
  | 3 => e.s3

/-- How many bits of the mask below bit `i` are set. -/
def maskRank (mask : BitVec 4) (i : Nat) : Nat := ((List.range i).filter fun j => mask.getLsbD j).length

/-- The stage commands, with the stage each one completes and the stages a data error of it leaves (R27, R253). DECODE's are
those of its five stages. -/
def stageEnds : List (Instr × Stage × List Stage) :=
  [(.openFile, .opened, [.idle]), (.dirhdr, .hdr, [.opened]), (.readPrefix, .prefixed, [.hdr]), (.pct, .pct, [.prefixed]),
   (.setup, .setup, [.pct]), (.recon, .done, [.setup]), (.decodeDir, .done, [.opened, .hdr, .prefixed, .pct, .setup])]

/-- One stage after another: the next stage runs only when the one before it ended with ERR = 0 (R225). -/
def thenStage (o : Host.Outcome State Fault Refusal) (i : Instr) : Host.Outcome State Fault Refusal :=
  match o with
  | .next t => if t.err = none then exec i t else .next t
  | .fault r => .fault r
  | .refused r => .refused r

end Sys2Proof.Claims

open Sys2Proof Sys2Proof.Machine Sys2Proof.Claims

/-! ### Encoding -/

/-- R81, R82: the word of every command decodes to that command, with every operand. -/
def Obligations.DecodeInvertsEncode : Prop := ∀ i : Instr, decode (encode i) = .ok i

/-- R80 to R83: each command has exactly one word. -/
def Obligations.EncodeInvertsDecode : Prop := ∀ (w : Word) (i : Instr), decode w = .ok i → encode i = w

/-- R83: a word is legal exactly when its opcode is in the table and the fields the command does not use are 0; the decoder
accepts exactly the legal words. -/
def Obligations.DecoderAcceptsExactlyLegalWords : Prop := ∀ w : Word, (∃ i, decode w = .ok i) ↔ wordLegal w = true

/-- R82, R86: the example words of the spec. -/
def Obligations.SpecExampleWordsDecode : Prop :=
  decode 0x00002913 = .ok (.readuW16 2) ∧ decode 0x00076018 = .ok (.slice 7 6) ∧ decode 0x00000026 = .ok .decodeDir
    ∧ decode 0x00006010 = .ok (.curopen 6) ∧ decode 0x00006514 = .ok (.readsW8 6) ∧ decode 0x00007016 = .ok (.skip 7)
    ∧ decode 0x00000020 = .ok .openFile ∧ decode 0x00000023 = .ok .pct

/-! ### Steps and the host interface -/

/-- R22: a host write to CMD runs the command its word encodes, at the state the host's earlier actions left. The model's own
choices: how the host's coming actions are held (log entry 2), and that of a 64-bit value written the low 32 bits are the command
word (log entry 3). -/
def Obligations.StepRunsDecodedCommand : Prop :=
  ∀ (s : State) (rest : List HostAction) (v : DWord) (i : Instr),
    s.hostQueue = .writeReg 0 v :: rest → decode (v.setWidth 32) = .ok i → step s = exec i { s with hostQueue := rest }

/-- R84: an illegal word writes ERR = 7 and changes nothing else. The model's own choices: that the action leaves the queue of
coming actions (log entry 2), and that of a 64-bit value written the low 32 bits are the command word (log entry 3). -/
def Obligations.IllegalWordOnlyWritesErr : Prop :=
  errField (some .illegalCommand) = 7 ∧
  ∀ (s : State) (rest : List HostAction) (v : DWord),
    s.hostQueue = .writeReg 0 v :: rest → wordLegal (v.setWidth 32) = false →
      step s = .next { s with hostQueue := rest, err := some .illegalCommand }

/-- R265, R280: with no host action coming the core holds its state. The queue is the model's own field (log entry 2). -/
def Obligations.CoreWaitsForHost : Prop := ∀ s : State, s.hostQueue = [] → step s = .next s

/-- R21, R23, R31, R32: what a host write to each register does. That a 32-bit register takes the low 32 bits of the value
written is the model's choice (log entry 3). -/
def Obligations.HostRegisterWrites : Prop :=
  ∀ (s : State) (rest : List HostAction) (no : Nat) (v : DWord), s.hostQueue = .writeReg no v :: rest →
    (no = 1 → step s = .next { s with hostQueue := rest, arg0 := v }) ∧
    (no = 2 → step s = .next { s with hostQueue := rest, arg1 := v }) ∧
    (no = 5 → s.srcValid = false → (v.setWidth 32).toNat ≤ s.params.srcCap →
      step s = .next { s with hostQueue := rest, srcLen := v.setWidth 32 }) ∧
    (no = 5 → s.srcValid = true ∨ s.params.srcCap < (v.setWidth 32).toNat → step s = .next { s with hostQueue := rest }) ∧
    (no = 6 → v.getLsbD 0 = true → step s = .next { s with hostQueue := rest, srcValid := true }) ∧
    (no = 6 → v.getLsbD 0 = false →
      step s = .next { s with hostQueue := rest, srcValid := false, stage := .idle, failed := false }) ∧
    (no ≠ 0 → no ≠ 1 → no ≠ 2 → no ≠ 5 → no ≠ 6 → step s = .next { s with hostQueue := rest })

/-- R30: the host writes SRC only while SRC_VALID = 0, one byte at a time; the other tables are not host-writable (R51). The
model's own choices: a write to another space is ignored (log entry 14), SRC takes the low 8 bits of the value (log entry 3), and
a write past SRC_CAP, for which the spec gives no effect, faults (log entry 7). -/
def Obligations.SourceMemoryWrites : Prop :=
  ∀ (s : State) (rest : List HostAction) (space a : Nat) (v : DWord), s.hostQueue = .writeTable space a v :: rest →
    (space ≠ 0 ∨ s.srcValid = true → step s = .next { s with hostQueue := rest }) ∧
    (space = 0 → s.srcValid = false → a < s.params.srcCap →
      ∃ t, step s = .next t ∧ t = { s with hostQueue := rest, src := t.src } ∧
        ∀ b, Memory.byte t.src b = if b = a then v.setWidth 8 else Memory.byte s.src b) ∧
    (space = 0 → s.srcValid = false → s.params.srcCap ≤ a → step s = .fault (.srcAddressAbsent a))

/-- R281: after reset every register reads 0; and OFFT, FH and PCT read 0 (R282). -/
def Obligations.RegistersReadZeroAfterReset : Prop :=
  (∀ no, readReg State.reset no = 0) ∧ (∀ i, readTable State.reset (.offt i) = 0) ∧
  (∀ f field, readTable State.reset (.fh f field) = 0) ∧ (∀ k, readTable State.reset (.pct k) = 0) ∧
  State.reset.stage = .idle ∧ State.reset.err = none ∧ State.reset.failed = false ∧ State.reset.srcValid = false ∧
  (∀ c, State.reset.cursor c = ⟨0, 0, 0, false⟩)

/-- R280: the reset input puts the state of power-on reset, for the same parameters. What SRC, LAST, LOG and MAP hold then is the
model's choice (log entries 4, 5 and 10), as are its own fields (log entries 1 and 2). -/
def Obligations.ResetInputGivesResetState : Prop :=
  (∀ (s : State) (rest : List HostAction), s.hostQueue = .reset :: rest →
    step s = .next { State.resetWith s.params with hostQueue := rest }) ∧ State.reset = State.resetWith Config.params

/-- R28, R27, R251, R21: the fields of STATUS and their codes, value by value; and which register number reads what: a narrower
register has 0 above its bits, FLAGS is COMPEQ, HASRAW and SELS the seven selectors from SEL_VAR0 up (R36, R37). -/
def Obligations.StatusRegisterLayout : Prop :=
  (errField none = 0 ∧ errField (some .sourceUnavailable) = 1 ∧ errField (some .malformedHeader) = 2 ∧
    errField (some .truncatedStream) = 3 ∧ errField (some .invalidOffsetTable) = 4 ∧
    errField (some .incrementalUnsupported) = 5 ∧ errField (some .capacityExceeded) = 6 ∧
    errField (some .illegalCommand) = 7 ∧ errField (some .sequenceError) = 8 ∧ errField (some .badIndex) = 9) ∧
  (stageField .idle = 0 ∧ stageField .opened = 1 ∧ stageField .hdr = 2 ∧ stageField .prefixed = 3 ∧ stageField .pct = 4 ∧
    stageField .setup = 5 ∧ stageField .done = 6) ∧
  ∀ s : State,
    ((readReg s 4).extractLsb' 0 4 = errField s.err ∧ (readReg s 4).extractLsb' 4 3 = stageField s.stage ∧
      (readReg s 4).getLsbD 7 = s.failed ∧ (∀ c : CursorIx, (readReg s 4).getLsbD (8 + c.val) = (s.cursor c).err) ∧
      (readReg s 4).getLsbD 16 = false ∧ (readReg s 4).extractLsb' 17 47 = 0) ∧
    (readReg s 0x01 = s.arg0 ∧ readReg s 0x02 = s.arg1 ∧ readReg s 0x03 = s.res ∧
      readReg s 0x05 = s.srcLen.setWidth 64 ∧ readReg s 0x06 = if s.srcValid then 1 else 0) ∧
    (readReg s 0x08 = s.header.sig.setWidth 64 ∧ readReg s 0x09 = s.header.ver.setWidth 64 ∧
      readReg s 0x0A = s.header.dirCnt.setWidth 64 ∧ readReg s 0x0B = s.header.fpd.setWidth 64 ∧
      readReg s 0x0C = s.header.rsv.setWidth 64 ∧ readReg s 0x0D = s.header.tag.setWidth 64 ∧
      readReg s 0x0E = s.header.final.setWidth 64) ∧
    (readReg s 0x10 = s.dirIdx.setWidth 64 ∧ readReg s 0x11 = s.outSize.setWidth 64 ∧
      readReg s 0x12 = BitVec.ofNat 64 (s.hasRaw.toNat + 2 * s.compEq.toNat) ∧
      readReg s 0x13 = BitVec.ofNat 64 (s.sels.var0.toNat + 2 ^ 4 * s.sels.width.toNat + 2 ^ 8 * s.sels.height.toNat
        + 2 ^ 12 * s.sels.xoff.toNat + 2 ^ 16 * s.sels.yoff.toNat + 2 ^ 20 * s.sels.optb.toNat
        + 2 ^ 24 * s.sels.codedb.toNat)) ∧
    (readReg s 0x14 = s.extents.xmin ∧ readReg s 0x15 = s.extents.xmax ∧ readReg s 0x16 = s.extents.ymin ∧
      readReg s 0x17 = s.extents.ymax ∧ readReg s 0x18 = s.gw.setWidth 64 ∧ readReg s 0x19 = s.gh.setWidth 64) ∧
    (readReg s 0x1A = s.sizes.eq.setWidth 64 ∧ readReg s 0x1B = s.sizes.mask.setWidth 64 ∧
      readReg s 0x1C = s.sizes.rawu.setWidth 64 ∧ readReg s 0x1D = s.sizes.rawc.setWidth 64 ∧
      readReg s 0x1E = s.pctCount.setWidth 64 ∧ readReg s 0x1F = s.logCount.setWidth 64 ∧
      readReg s 0x20 = s.mapCount.setWidth 64) ∧
    (∀ c : CursorIx, readReg s (0x28 + 4 * c.val) = (s.cursor c).base ∧ readReg s (0x29 + 4 * c.val) = (s.cursor c).pos ∧
      readReg s (0x2A + 4 * c.val) = (s.cursor c).len ∧ readReg s (0x2B + 4 * c.val) = if (s.cursor c).err then 1 else 0) ∧
    (∀ no, no = 0 ∨ no = 0x07 ∨ no = 0x0F ∨ (0x21 ≤ no ∧ no ≤ 0x27) ∨ 0x48 ≤ no → readReg s no = 0)

/-- R51, R34, R40, R42 to R44, R46: inside each table the port reads the entry's field; an index beyond a table's size reads 0; a
NONE slot of LAST reads 0xFFFFFFFF. The fields' names, and the zeros above a field narrower than 64 bits, are the model's (log
entry 9). -/
def Obligations.TablePortReads : Prop :=
  ∀ s : State,
    ((∀ a, s.params.srcCap ≤ a → readTable s (.src a) = 0) ∧ (∀ i, 257 ≤ i → readTable s (.offt i) = 0) ∧
      (∀ f field, 255 ≤ f → readTable s (.fh f field) = 0) ∧ (∀ k, 256 ≤ k → readTable s (.pct k) = 0) ∧
      (∀ k, s.params.maxCells ≤ k → readTable s (.last k) = 0) ∧
      (∀ j field, s.params.logCap ≤ j → readTable s (.log j field) = 0) ∧
      (∀ j field, s.params.mapCap ≤ j → readTable s (.map j field) = 0)) ∧
    ((∀ a, a < s.params.srcCap → readTable s (.src a) = (Memory.byte s.src a).setWidth 64) ∧
      (∀ i, i < 257 → readTable s (.offt i) = (s.offset i).setWidth 64) ∧
      (∀ k, k < 256 → readTable s (.pct k) = (s.code k).setWidth 64)) ∧
    (∀ f, f < 255 →
      readTable s (.fh f .var0) = (s.frame f).var0.setWidth 64 ∧ readTable s (.fh f .width) = (s.frame f).width.setWidth 64 ∧
      readTable s (.fh f .height) = (s.frame f).height.setWidth 64 ∧ readTable s (.fh f .xoff) = (s.frame f).xoff.setWidth 64 ∧
      readTable s (.fh f .yoff) = (s.frame f).yoff.setWidth 64 ∧ readTable s (.fh f .optb) = (s.frame f).optb.setWidth 64 ∧
      readTable s (.fh f .codedb) = (s.frame f).codedb.setWidth 64 ∧
      readTable s (.fh f .bottomUp) = (if (s.frame f).bottomUp then 1 else 0) ∧
      readTable s (.fh f .fxmin) = (s.frame f).fxmin ∧ readTable s (.fh f .fxmax) = (s.frame f).fxmax ∧
      readTable s (.fh f .fymin) = (s.frame f).fymin ∧ readTable s (.fh f .fymax) = (s.frame f).fymax) ∧
    ((∀ k, k < s.params.maxCells → s.lastEntry k = none → readTable s (.last k) = 0xFFFFFFFF) ∧
      (∀ k j, k < s.params.maxCells → s.lastEntry k = some j → readTable s (.last k) = j.setWidth 64)) ∧
    (∀ j, j < s.params.logCap →
      (∀ i, readTable s (.log j (.slot i)) = (slotOf (s.entry j).slots i).setWidth 64) ∧
      readTable s (.log j .frame) = (s.entry j).frame.setWidth 64 ∧ readTable s (.log j .cell) = (s.entry j).cell.setWidth 64) ∧
    (∀ j, j < s.params.mapCap →
      readTable s (.map j .frame) = (s.record j).frame.setWidth 64 ∧ readTable s (.map j .cell) = (s.record j).cell.setWidth 64 ∧
      readTable s (.map j .entry) = (s.record j).entry.setWidth 64 ∧
      readTable s (.map j .reused) = if (s.record j).reused then 1 else 0)

/-- R64, R65: the j-th bit of a field is the j-th bit read; so a 32-bit field at a byte address is the little-endian word
there. -/
def Obligations.FieldBitsInReadOrder : Prop :=
  (∀ (m : Memory) (b w j : Nat), (fieldAt m b w).testBit j = (decide (j < w) && srcBit m (b + j))) ∧
  (∀ (m : Memory) (a : Nat), fieldAt m (8 * a) 32 = memRead m a 4)

/-! ### Bit-reader commands -/

/-- R112, R113, R114: a read inside the cursor's range gives the field, zero-extended, and moves past it. -/
def Obligations.UnsignedReadsComplete : Prop :=
  ∀ (s : State) (c : CursorIx) (k : Cursor), s.cursor c = k → ∀ p ∈ unsignedReads c,
    k.err = false → k.pos.toNat + p.2 ≤ k.len.toNat →
      exec p.1 s = .next { s with
        res := BitVec.ofNat 64 (fieldAt s.src (nextBit k) p.2)
        err := none
        cursors := s.cursors.set c (movedTo k (k.pos.toNat + p.2)) }

/-- R115: a signed read inside the cursor's range gives the field, sign-extended, and moves past it. -/
def Obligations.SignedReadsComplete : Prop :=
  ∀ (s : State) (c : CursorIx) (k : Cursor), s.cursor c = k → ∀ p ∈ signedReads c,
    k.err = false → k.pos.toNat + p.2 ≤ k.len.toNat →
      exec p.1 s = .next { s with
        res := (BitVec.ofNat p.2 (fieldAt s.src (nextBit k) p.2)).signExtend 64
        err := none
        cursors := s.cursors.set c (movedTo k (k.pos.toNat + p.2)) }

/-- R70, R110, R120: a read, an align or a skip past the end of the cursor, or on a cursor in error, ends with
TruncatedStream, sets the cursor's error, does not move it, and a read gives 0. -/
def Obligations.RefusedAccessesFail : Prop :=
  ∀ (s : State) (c : CursorIx) (k : Cursor), s.cursor c = k →
    (∀ p ∈ unsignedReads c ++ signedReads c, k.err = true ∨ k.len.toNat < k.pos.toNat + p.2 →
      exec p.1 s = .next { s with res := 0, err := some .truncatedStream, cursors := s.cursors.set c (inError k) }) ∧
    (k.err = true ∨ k.len.toNat < 8 * ((k.pos.toNat + 7) / 8) →
      exec (.align c) s = .next { s with err := some .truncatedStream, cursors := s.cursors.set c (inError k) }) ∧
    (k.err = true ∨ k.len.toNat < k.pos.toNat + s.arg0.toNat →
      exec (.skip c) s = .next { s with err := some .truncatedStream, cursors := s.cursors.set c (inError k) })

/-- R111, R74, R119, R73: CUROPEN makes the cursor, reports a range past SRCLEN, or needs SRC_VALID = 1; SLICE makes D the rest
of C, with C's error, also when D = C. -/
def Obligations.CuropenAndSliceMakeCursors : Prop :=
  (∀ (s : State) (c : CursorIx),
    (s.srcValid = true → s.arg0.toNat + s.arg1.toNat ≤ s.srcLen.toNat →
      exec (.curopen c) s = .next { s with
        err := none
        cursors := s.cursors.set c ⟨BitVec.ofNat 64 (8 * s.arg0.toNat), 0, BitVec.ofNat 64 (8 * s.arg1.toNat), false⟩ }) ∧
    (s.srcValid = true → s.srcLen.toNat < s.arg0.toNat + s.arg1.toNat →
      exec (.curopen c) s = .next { s with err := some .truncatedStream, cursors := s.cursors.set c ⟨0, 0, 0, true⟩ }) ∧
    (s.srcValid = false → exec (.curopen c) s = .next { s with err := some .sourceUnavailable })) ∧
  (∀ (s : State) (d c : CursorIx) (k : Cursor), s.cursor c = k →
    (k.err = false →
      exec (.slice d c) s = .next { s with
        err := none
        cursors := s.cursors.set d ⟨k.base + k.pos, 0, k.len - k.pos, false⟩ }) ∧
    (k.err = true →
      exec (.slice d c) s = .next { s with
        err := some .truncatedStream
        cursors := s.cursors.set d ⟨k.base + k.pos, 0, k.len - k.pos, true⟩ }))

/-- R116, R117: ALIGN moves to the next multiple of 8, SKIP by ARG0 bits, when the cursor's range allows it. -/
def Obligations.AlignAndSkipMove : Prop :=
  ∀ (s : State) (c : CursorIx) (k : Cursor), s.cursor c = k → k.err = false →
    (8 * ((k.pos.toNat + 7) / 8) ≤ k.len.toNat →
      exec (.align c) s =
        .next { s with err := none, cursors := s.cursors.set c (movedTo k (8 * ((k.pos.toNat + 7) / 8))) }) ∧
    (k.pos.toNat + s.arg0.toNat ≤ k.len.toNat →
      exec (.skip c) s =
        .next { s with err := none, cursors := s.cursors.set c (movedTo k (k.pos.toNat + s.arg0.toNat)) })

/-- R118: SIZE gives the length of the whole range, also on a cursor in error. -/
def Obligations.SizeReturnsWholeLength : Prop :=
  ∀ (s : State) (c : CursorIx), exec (.size c) s = .next { s with res := (s.cursor c).len, err := none }

/-- R122: what a field of the stream encodes is what a read of its width gives back. -/
def Obligations.FieldRoundTrip : Prop :=
  ∀ (s : State) (c : CursorIx) (k : Cursor), s.cursor c = k → k.err = false →
    (∀ p ∈ unsignedReads c, ∀ v : Nat, k.pos.toNat + p.2 ≤ k.len.toNat →
      (∀ j, j < p.2 → srcBit s.src (nextBit k + j) = v.testBit j) →
        ∃ t, exec p.1 s = .next t ∧ t.err = none ∧ t.res = BitVec.ofNat 64 (v % 2 ^ p.2)) ∧
    (∀ p ∈ signedReads c, ∀ v : Int, k.pos.toNat + p.2 ≤ k.len.toNat →
      (∀ j, j < p.2 → srcBit s.src (nextBit k + j) = (BitVec.ofInt p.2 v).getLsbD j) →
        ∃ t, exec p.1 s = .next t ∧ t.err = none ∧ t.res = (BitVec.ofInt p.2 v).signExtend 64 ∧
          (1 ≤ p.2 → -2 ^ (p.2 - 1) ≤ v → v < 2 ^ (p.2 - 1) → t.res = BitVec.ofInt 64 v))

/-- R110, R26: a bit-reader command writes at most RES, ERR and the one cursor it names; CUROPEN, ALIGN, SKIP and SLICE leave
RES, SIZE leaves the cursors; ERR is 0, or 3 with the cursor in error, or 1 for CUROPEN. -/
def Obligations.BitReaderCommandsFrame : Prop :=
  ∀ (i : Instr) (s t : State) (c : CursorIx), bitReaderCursor i = some c → exec i s = .next t →
    t = { s with res := t.res, err := t.err, cursors := t.cursors } ∧
    (∀ d, d ≠ c → t.cursor d = s.cursor d) ∧
    (i = .curopen c ∨ i = .align c ∨ i = .skip c ∨ (∃ e, i = .slice c e) → t.res = s.res) ∧
    (i = .size c → t.cursors = s.cursors) ∧
    (t.err = none ∨ (t.err = some .truncatedStream ∧ (t.cursor c).err = true) ∨
      (i = .curopen c ∧ t.err = some .sourceUnavailable))

/-- R24, R25: a command that does not make a cursor leaves its base and length, and never clears its error. -/
def Obligations.CursorsAreRemadeOnlyByMakers : Prop :=
  ∀ (i : Instr) (s t : State) (c : CursorIx), exec i s = .next t → makesCursor i c = false →
    (t.cursor c).base = (s.cursor c).base ∧ (t.cursor c).len = (s.cursor c).len ∧
    ((s.cursor c).err = true → t.cursor c = s.cursor c)

/-! ### OPEN -/

/-- R141, R144: OPEN of a well-formed file header fills the header registers and the offset table and leaves STAGE = OPENED. -/
def Obligations.OpenParsesHeader : Prop :=
  ∀ (s : State) (n : Nat), (Memory.byte s.src 5).toNat = n → s.srcValid = true → headerLegal s →
    18 + 4 * n ≤ s.srcLen.toNat →
    (∀ i, i < n → fileOffsets s.src s.srcLen.toNat n i < fileOffsets s.src s.srcLen.toNat n (i + 1)) →
      ∃ t, exec .openFile s = .next t ∧
        t = { s with header := fileHeaderOf s.src, offt := t.offt, stage := .opened, failed := false, err := none } ∧
        (∀ i, i ≤ n → (t.offset i).toNat = fileOffsets s.src s.srcLen.toNat n i) ∧
        (∀ i, n < i → t.offset i = s.offset i)

/-- R142, R143: a file that does not start with SIGNATURE, or whose reserved bytes are not all 0, is MalformedHeader. -/
def Obligations.OpenRejectsMalformedHeader : Prop :=
  ∀ s : State, s.srcValid = true →
    (4 ≤ s.srcLen.toNat → signatureMatches s.params.signature s.src = false →
      exec .openFile s = .next { s with
        header := { s.header with sig := BitVec.ofNat 32 (memRead s.src 0 4) }
        stage := .idle
        failed := true
        err := some .malformedHeader }) ∧
    (10 ≤ s.srcLen.toNat → signatureMatches s.params.signature s.src = true →
      (Memory.byte s.src 7 ≠ 0 ∨ Memory.byte s.src 8 ≠ 0 ∨ Memory.byte s.src 9 ≠ 0) →
      exec .openFile s = .next { s with
        header := { s.header with
          sig := BitVec.ofNat 32 (memRead s.src 0 4)
          ver := Memory.byte s.src 4
          dirCnt := Memory.byte s.src 5
          fpd := Memory.byte s.src 6
          rsv := BitVec.ofNat 24 (memRead s.src 7 3) }
        stage := .idle
        failed := true
        err := some .malformedHeader })

/-- R145: OPEN fails with InvalidOffsetTable unless the offsets are strictly increasing up to SRCLEN. -/
def Obligations.OpenRejectsUnorderedOffsets : Prop :=
  ∀ (s : State) (n i : Nat), (Memory.byte s.src 5).toNat = n → s.srcValid = true → headerLegal s →
    18 + 4 * n ≤ s.srcLen.toNat → i < n →
    fileOffsets s.src s.srcLen.toNat n (i + 1) ≤ fileOffsets s.src s.srcLen.toNat n i →
      ∃ t, exec .openFile s = .next t ∧ t.err = some .invalidOffsetTable ∧ t.stage = .idle ∧ t.failed = true ∧
        t.header = fileHeaderOf s.src

/-- R141, R254: OPEN without a source, and OPEN of a stream that ends inside the header or the offset table. A truncation comes
before a check of what was not read: only a signature or reserved bytes that the stream holds whole must be right. -/
def Obligations.OpenReportsMissingBytes : Prop :=
  ∀ s : State,
    (s.srcValid = false →
      exec .openFile s = .next { s with stage := .idle, failed := true, err := some .sourceUnavailable }) ∧
    (s.srcValid = true → s.srcLen.toNat < 4 →
      exec .openFile s = .next { s with stage := .idle, failed := true, err := some .truncatedStream }) ∧
    (s.srcValid = true → 4 ≤ s.srcLen.toNat → signatureMatches s.params.signature s.src = true →
      (10 ≤ s.srcLen.toNat → Memory.byte s.src 7 = 0 ∧ Memory.byte s.src 8 = 0 ∧ Memory.byte s.src 9 = 0) →
      s.srcLen.toNat < 18 + 4 * (Memory.byte s.src 5).toNat →
      ∃ t, exec .openFile s = .next t ∧ t.err = some .truncatedStream ∧ t.stage = .idle ∧ t.failed = true)

/-- R140: OPEN changes no cursor, not RES, and nothing of the direction state; however it ends. -/
def Obligations.OpenFrame : Prop :=
  ∀ s t : State, exec .openFile s = .next t →
    t = { s with header := t.header, offt := t.offt, stage := t.stage, failed := t.failed, err := t.err }

/-! ### The stage commands' prerequisites -/

/-- R252, R254: a SequenceError or BadIndex is found before any state changes: only ERR is written. -/
def Obligations.CommandErrorsChangeOnlyErr : Prop :=
  ∀ s : State,
    (s.stage = .idle → ∀ i ∈ [Instr.dirhdr, .decodeDir], exec i s = .next { s with err := some .sequenceError }) ∧
    (s.stage ≠ .idle → s.header.dirCnt.toNat ≤ s.arg0.toNat →
      ∀ i ∈ [Instr.dirhdr, .decodeDir], exec i s = .next { s with err := some .badIndex }) ∧
    (∀ p ∈ [(Instr.readPrefix, Stage.hdr), (.pct, .prefixed), (.setup, .pct), (.recon, .setup)],
      s.stage ≠ p.2 ∨ s.failed = true → exec p.1 s = .next { s with err := some .sequenceError })

/-! ### DIRHDR -/

/-- R160, R162 to R165, R167, R169: DIRHDR on a direction whose bytes hold its headers and optional data reads every field from
its place in the stream and leaves cursor 0 just after them. -/
def Obligations.DirhdrParsesDirection : Prop :=
  ∀ (s : State) (a n b : Nat), directionSelected s → directionBytes s a n → b = 8 * a →
    headersEnd s.src b s.header.fpd.toNat ≤ 8 * n →
      ∃ t, exec .dirhdr s = .next t ∧ t.err = none ∧ t.stage = .hdr ∧ t.failed = false ∧
        t.dirIdx.toNat = s.arg0.toNat ∧ t.outSize = BitVec.ofNat 32 (fieldAt s.src b 32) ∧
        t.hasRaw = srcBit s.src (b + 32) ∧ t.compEq = srcBit s.src (b + 33) ∧ t.sels = selectorsAt s.src b ∧
        (∀ f, f < s.header.fpd.toNat →
          FieldsFrom s.src (b + 62 + f * frameHeaderWidth (selectorsAt s.src b)) (selectorsAt s.src b) (t.frame f)) ∧
        t.cursor cMain =
          ⟨BitVec.ofNat 64 b, BitVec.ofNat 64 (headersEnd s.src b s.header.fpd.toNat), BitVec.ofNat 64 (8 * n), false⟩

/-- R160, R253: a direction whose bytes end inside a field or an optional-data block is TruncatedStream, with FAILED = 1 and
STAGE = OPENED. -/
def Obligations.DirhdrReportsTruncation : Prop :=
  ∀ (s : State) (a n : Nat), directionSelected s → directionBytes s a n →
    8 * n < headersEnd s.src (8 * a) s.header.fpd.toNat →
      ∃ t, exec .dirhdr s = .next t ∧ t.err = some .truncatedStream ∧ t.stage = .opened ∧ t.failed = true ∧
        (t.cursor cMain).err = true

/-- R166, R168: after a DIRHDR that succeeds the frame extents are those of the formulas, exactly, and the direction extents are
their union: bounds of every frame, each reached by some frame; all 0 when FPD = 0. -/
def Obligations.ExtentsFollowFormulas : Prop :=
  ∀ s t : State, exec .dirhdr s = .next t → t.err = none →
    (∀ f, f < t.header.fpd.toNat →
      (t.frame f).fxmin.toInt = (t.frame f).xoff.toInt ∧
      (t.frame f).fxmax.toInt = (t.frame f).xoff.toInt + (t.frame f).width.toNat ∧
      ((t.frame f).bottomUp = true → (t.frame f).fymin.toInt = (t.frame f).yoff.toInt ∧
        (t.frame f).fymax.toInt = (t.frame f).yoff.toInt + (t.frame f).height.toNat) ∧
      ((t.frame f).bottomUp = false →
        (t.frame f).fymin.toInt = (t.frame f).yoff.toInt - (t.frame f).height.toNat + 1 ∧
        (t.frame f).fymax.toInt = (t.frame f).yoff.toInt + 1) ∧
      t.extents.xmin.toInt ≤ (t.frame f).fxmin.toInt ∧ (t.frame f).fxmax.toInt ≤ t.extents.xmax.toInt ∧
      t.extents.ymin.toInt ≤ (t.frame f).fymin.toInt ∧ (t.frame f).fymax.toInt ≤ t.extents.ymax.toInt) ∧
    (1 ≤ t.header.fpd.toNat →
      (∃ f, f < t.header.fpd.toNat ∧ t.extents.xmin = (t.frame f).fxmin) ∧
      (∃ f, f < t.header.fpd.toNat ∧ t.extents.xmax = (t.frame f).fxmax) ∧
      (∃ f, f < t.header.fpd.toNat ∧ t.extents.ymin = (t.frame f).fymin) ∧
      (∃ f, f < t.header.fpd.toNat ∧ t.extents.ymax = (t.frame f).fymax)) ∧
    (t.header.fpd.toNat = 0 → t.extents = ⟨0, 0, 0, 0⟩)

/-- R161, R160: a DIRHDR whose prerequisites hold clears the direction state, however it ends, and changes nothing outside it. In
a direction of `n` bytes it reads exactly the fields that end inside them; a field it does not reach is 0, and so are the
direction extents when it fails. -/
def Obligations.DirhdrClearsDirectionState : Prop :=
  ∀ s : State, directionSelected s → ∃ t, exec .dirhdr s = .next t ∧
    t.gw = 0 ∧ t.gh = 0 ∧ t.sizes = ⟨0, 0, 0, 0⟩ ∧ t.pctCount = 0 ∧ (∀ k, t.code k = 0) ∧ t.logCount = 0 ∧ t.mapCount = 0 ∧
    (t.err ≠ none → t.extents = ⟨0, 0, 0, 0⟩) ∧
    (∀ a n b : Nat, directionBytes s a n → b = 8 * a →
      t.outSize = BitVec.ofNat 32 (fieldWithin s.src b (8 * n) 0 32) ∧
      t.hasRaw = decide (fieldWithin s.src b (8 * n) 32 1 = 1) ∧ t.compEq = decide (fieldWithin s.src b (8 * n) 33 1 = 1) ∧
      t.sels = selectorsWithin s.src b (8 * n) ∧
      ∀ f, f < s.header.fpd.toNat →
        FieldsWithin s.src b (8 * n) (62 + f * frameHeaderWidth t.sels) t.sels (t.frame f)) ∧
    (∀ f, s.header.fpd.toNat ≤ f → t.frame f = FrameHeader.zero) ∧
    (∀ c : CursorIx, 1 ≤ c.val → c.val ≤ 5 → t.cursor c = ⟨0, 0, 0, false⟩) ∧
    t.cursor 6 = s.cursor 6 ∧ t.cursor 7 = s.cursor 7 ∧
    t = { s with
      err := t.err
      stage := t.stage
      failed := t.failed
      cursors := t.cursors
      dirIdx := BitVec.ofNat 8 s.arg0.toNat
      outSize := t.outSize
      hasRaw := t.hasRaw
      compEq := t.compEq
      sels := t.sels
      extents := t.extents
      gw := 0
      gh := 0
      fh := t.fh
      sizes := ⟨0, 0, 0, 0⟩
      pctCount := 0
      pct := t.pct
      logCount := 0
      mapCount := 0 }

/-! ### PREFIX and PCT -/

/-- R200, R99: PREFIX reads the 1 to 4 prefixes the flags call for, in order, 20 bits each; the other sizes stay. -/
def Obligations.PrefixReadsLengths : Prop :=
  ∀ (s : State) (k : Cursor) (p : Nat), s.cursor cMain = k → s.stage = .hdr → s.failed = false → k.err = false →
    k.pos.toNat + 20 * prefixCount s ≤ k.len.toNat → p = nextBit k + 20 * s.compEq.toNat →
      exec .readPrefix s = .next { s with
        sizes :=
          { eq := if s.compEq then BitVec.ofNat 20 (fieldAt s.src (nextBit k) 20) else s.sizes.eq
            mask := BitVec.ofNat 20 (fieldAt s.src p 20)
            rawu := if s.hasRaw then BitVec.ofNat 20 (fieldAt s.src (p + 20) 20) else s.sizes.rawu
            rawc := if s.hasRaw then BitVec.ofNat 20 (fieldAt s.src (p + 40) 20) else s.sizes.rawc }
        stage := .prefixed
        err := none
        cursors := s.cursors.set cMain (movedTo k (k.pos.toNat + 20 * prefixCount s)) }

/-- R190, R191: PCT lists the byte values whose presence bit is 1, in rising order. -/
def Obligations.PctListsPresentValues : Prop :=
  ∀ (s : State) (k : Cursor) (present : List Nat), s.cursor cMain = k → s.stage = .prefixed → s.failed = false →
    s.pctCount = 0 → k.err = false → k.pos.toNat + 256 ≤ k.len.toNat →
    present = (List.range 256).filter (fun j => srcBit s.src (nextBit k + j)) →
      ∃ t, exec .pct s = .next t ∧ t.pctCount.toNat = present.length ∧
        (∀ (i : Nat) (hi : i < present.length), (t.code i).toNat = present[i]) ∧
        (∀ i, present.length ≤ i → t.code i = s.code i) ∧
        t = { s with
          pct := t.pct
          pctCount := t.pctCount
          stage := .pct
          err := none
          cursors := s.cursors.set cMain (movedTo k (k.pos.toNat + 256)) }

/-- R200, R190, R253: PREFIX and PCT on a cursor 0 that ends too early are TruncatedStream: FAILED = 1, STAGE stays. -/
def Obligations.PrefixAndPctReportTruncation : Prop :=
  ∀ (s : State) (k : Cursor), s.cursor cMain = k → s.failed = false →
    (s.stage = .hdr → k.err = true ∨ k.len.toNat < k.pos.toNat + 20 * prefixCount s →
      ∃ t, exec .readPrefix s = .next t ∧ t.err = some .truncatedStream ∧ t.failed = true ∧ t.stage = .hdr ∧
        (t.cursor cMain).err = true ∧
        t = { s with sizes := t.sizes, err := t.err, failed := true, cursors := s.cursors.set cMain (t.cursor cMain) }) ∧
    (s.stage = .prefixed → k.err = true ∨ k.len.toNat < k.pos.toNat + 256 →
      ∃ t, exec .pct s = .next t ∧ t.err = some .truncatedStream ∧ t.failed = true ∧ t.stage = .prefixed ∧
        (t.cursor cMain).err = true ∧
        t = { s with
          pct := t.pct
          pctCount := t.pctCount
          err := t.err
          failed := true
          cursors := s.cursors.set cMain (t.cursor cMain) })

/-! ### SETUP and the cell grid -/

/-- R201, R202, R203, R206: SETUP carves the five sub-streams one after the other from cursor 0, sizes the grid, and empties
LAST, LOG and MAP. The premise extentsFit is part of the invariant GeometrySound. -/
def Obligations.SetupCarvesSubStreams : Prop :=
  ∀ (s : State) (k : Cursor), s.cursor cMain = k → s.stage = .pct → s.failed = false → k.err = false → extentsFit s.extents →
    k.pos.toNat + eqLen s + maskLen s + rawuLen s + rawcLen s ≤ k.len.toNat →
    cellsAcross s.extents.xmin s.extents.xmax * cellsAcross s.extents.ymin s.extents.ymax ≤ s.params.maxCells →
      ∃ t, exec .setup s = .next t ∧
        t.cursor cEq = ⟨k.base + k.pos, 0, BitVec.ofNat 64 (eqLen s), false⟩ ∧
        t.cursor cMask = ⟨k.base + k.pos + BitVec.ofNat 64 (eqLen s), 0, BitVec.ofNat 64 (maskLen s), false⟩ ∧
        t.cursor cRawu =
          ⟨k.base + k.pos + BitVec.ofNat 64 (eqLen s + maskLen s), 0, BitVec.ofNat 64 (rawuLen s), false⟩ ∧
        t.cursor cRawc =
          ⟨k.base + k.pos + BitVec.ofNat 64 (eqLen s + maskLen s + rawuLen s), 0, BitVec.ofNat 64 (rawcLen s), false⟩ ∧
        t.cursor cInc =
          ⟨k.base + k.pos + BitVec.ofNat 64 (eqLen s + maskLen s + rawuLen s + rawcLen s), 0,
            k.len - (k.pos + BitVec.ofNat 64 (eqLen s + maskLen s + rawuLen s + rawcLen s)), false⟩ ∧
        t.cursor cMain = movedTo k (k.pos.toNat + eqLen s + maskLen s + rawuLen s + rawcLen s) ∧
        t.cursor 6 = s.cursor 6 ∧ t.cursor 7 = s.cursor 7 ∧
        t.gw.toNat = cellsAcross s.extents.xmin s.extents.xmax ∧ t.gh.toNat = cellsAcross s.extents.ymin s.extents.ymax ∧
        (∀ j, t.lastEntry j = if j < t.gw.toNat * t.gh.toNat then none else s.lastEntry j) ∧
        t = { s with
          cursors := t.cursors
          gw := t.gw
          gh := t.gh
          last := t.last
          logCount := 0
          mapCount := 0
          stage := .setup
          err := none }

/-- R201, R205, R73: sub-streams that together exceed the bits left are TruncatedStream: the first that does not fit, and cursor 0,
are left in error; the cursors carved before it are made, the ones after it unchanged. A grid of more than MAX_CELLS cells is
CapacityExceeded, with cursors 0 to 5, GW and GH written and no cell state written. -/
def Obligations.SetupFailures : Prop :=
  ∀ (s : State) (k : Cursor), s.cursor cMain = k → s.stage = .pct → s.failed = false →
    (k.err = true ∨ k.len.toNat < k.pos.toNat + eqLen s + maskLen s + rawuLen s + rawcLen s →
      ∃ (i : Nat) (t : State), i < 4 ∧ firstMisfit s k i ∧ exec .setup s = .next t ∧ t.err = some .truncatedStream ∧
        t.cursor cMain = inError (movedTo k (k.pos.toNat + lensBefore s i)) ∧
        (∀ c : CursorIx, 1 ≤ c.val → c.val ≤ i → t.cursor c = carved s k (c.val - 1)) ∧
        (∀ c : CursorIx, c.val = i + 1 → t.cursor c = ⟨0, 0, 0, true⟩) ∧
        (∀ c : CursorIx, i + 1 < c.val → t.cursor c = s.cursor c) ∧
        t = { s with cursors := t.cursors, failed := true, err := t.err }) ∧
    (k.err = false → k.pos.toNat + eqLen s + maskLen s + rawuLen s + rawcLen s ≤ k.len.toNat → extentsFit s.extents →
      s.params.maxCells < cellsAcross s.extents.xmin s.extents.xmax * cellsAcross s.extents.ymin s.extents.ymax →
        ∃ t, exec .setup s = .next t ∧ t.err = some .capacityExceeded ∧
          t.gw.toNat = cellsAcross s.extents.xmin s.extents.xmax ∧ t.gh.toNat = cellsAcross s.extents.ymin s.extents.ymax ∧
          t.cursor cMain = movedTo k (k.pos.toNat + lensBefore s 4) ∧
          (∀ c : CursorIx, 1 ≤ c.val → c.val ≤ 4 → t.cursor c = carved s k (c.val - 1)) ∧
          t.cursor cInc = ⟨k.base + k.pos + BitVec.ofNat 64 (lensBefore s 4), 0,
            k.len - (k.pos + BitVec.ofNat 64 (lensBefore s 4)), false⟩ ∧
          t.cursor 6 = s.cursor 6 ∧ t.cursor 7 = s.cursor 7 ∧
          t = { s with cursors := t.cursors, gw := t.gw, gh := t.gh, failed := true, err := t.err })

/-- R203, R204: the columns and rows of cells tile the direction: 4 pixels each but the last, which has the remainder. -/
def Obligations.CellsTileDirection : Prop :=
  ∀ s : State,
    (s.extents.xmin.toInt < s.extents.xmax.toInt → s.gw.toNat = cellsAcross s.extents.xmin s.extents.xmax →
      (∀ cx, cx + 1 < s.gw.toNat → s.columnWidth cx = 4) ∧
      1 ≤ s.columnWidth (s.gw.toNat - 1) ∧ s.columnWidth (s.gw.toNat - 1) ≤ 4 ∧
      ((4 * (s.gw.toNat - 1) + s.columnWidth (s.gw.toNat - 1) : Nat) : Int) =
        s.extents.xmax.toInt - s.extents.xmin.toInt) ∧
    (s.extents.ymin.toInt < s.extents.ymax.toInt → s.gh.toNat = cellsAcross s.extents.ymin s.extents.ymax →
      (∀ cy, cy + 1 < s.gh.toNat → s.rowHeight cy = 4) ∧
      1 ≤ s.rowHeight (s.gh.toNat - 1) ∧ s.rowHeight (s.gh.toNat - 1) ≤ 4 ∧
      ((4 * (s.gh.toNat - 1) + s.rowHeight (s.gh.toNat - 1) : Nat) : Int) =
        s.extents.ymax.toInt - s.extents.ymin.toInt)

/-- R208, R209: the covered cells of a frame inside the direction are exactly the cells its pixels meet, each once, in row-major
order, all inside the grid. The premises are part of the invariant GeometrySound. -/
def Obligations.CoveredCellsAreThoseMet : Prop :=
  ∀ (s : State) (f : Nat), frameInside s.extents (s.frame f) →
    s.gw.toNat = cellsAcross s.extents.xmin s.extents.xmax → s.gh.toNat = cellsAcross s.extents.ymin s.extents.ymax →
      (s.coveredCells f).Pairwise (· < ·) ∧ (∀ k ∈ s.coveredCells f, k < s.gw.toNat * s.gh.toNat) ∧
      ∀ k, k ∈ s.coveredCells f ↔ ∃ x y : Int,
        (s.frame f).fxmin.toInt ≤ x ∧ x < (s.frame f).fxmax.toInt ∧ (s.frame f).fymin.toInt ≤ y ∧
        y < (s.frame f).fymax.toInt ∧
        k = ((y - s.extents.ymin.toInt) / 4).toNat * s.gw.toNat + ((x - s.extents.xmin.toInt) / 4).toNat

/-! ### RECON -/

/-- R207, R209, R222, R253: RECON at STAGE = SETUP is its cell steps in order: it ends with the first that raises, STAGE staying
SETUP, or with STAGE = DONE. When the sub-streams hold enough for every step in the worst case (equal-cell bits only if COMPEQ = 1,
and these and masks only for cells that have an entry by then), every cell is coded raw, and LOG and MAP have room, it completes:
STAGE = DONE, FAILED = 0, one map record per cell step, in order. A direction without cell steps needs none of this. A record's
CELL as the low 32 bits of a cell index of 2^32 or more is the model's (log entry 6, DEDUCED). -/
def Obligations.ReconCompletes : Prop :=
  ∀ (s : State) (n v : Nat), s.stage = .setup → s.failed = false → n = (cellSteps s).length → v = revisitsOf s →
    (∀ t, (runSteps (cellSteps s)).run s = .ok () t → exec .recon s = .next { t with stage := .done, err := none }) ∧
    (∀ e t, (runSteps (cellSteps s)).run s = .error e t →
      t.stage = .setup ∧ exec .recon s = .next { t with err := some e, failed := true }) ∧
    ((0 < v → (s.compEq = true → canRead s cEq v) ∧ canRead s cMask (4 * v)) →
      (0 < n → s.hasRaw = true ∧ canRead s cRawu n ∧ canRead s cRawc (32 * n) ∧
        ∀ j, j < n → srcBit s.src (nextBit (s.cursor cRawu) + j) = true) →
      s.logCount.toNat + n ≤ s.params.logCap → s.mapCount.toNat + n ≤ s.params.mapCap →
        ∃ t, exec .recon s = .next t ∧ t.stage = .done ∧ t.failed = false ∧ t.err = none ∧ t.outputValid = true ∧
          t.mapCount.toNat = s.mapCount.toNat + n ∧
          s.logCount.toNat ≤ t.logCount.toNat ∧ t.logCount.toNat ≤ s.logCount.toNat + n ∧
          (∀ (i : Nat) (hi : i < (cellSteps s).length),
            (t.record (s.mapCount.toNat + i)).frame = BitVec.ofNat 8 (cellSteps s)[i].1 ∧
            (t.record (s.mapCount.toNat + i)).cell = BitVec.ofNat 32 (cellSteps s)[i].2))

/-- R212, R222: an equal cell keeps its last entry: one equal-cell bit is read, no other sub-stream moves, and the map records the
inherited entry with REUSED = 1; with MAP full it is CapacityExceeded after that bit. An equal-cell bit that is not there is
TruncatedStream. The record's CELL as the low 32 bits of a cell index of 2^32 or more is the model's (log entry 6,
DEDUCED). -/
def Obligations.EqualCellReusesEntry : Prop :=
  ∀ (s : State) (f k : Nat) (h : Word), s.lastEntry k = some h → s.compEq = true →
    (nextBitIs s cEq true → s.mapCount.toNat ≠ s.params.mapCap →
      ∃ t, (cellStep f k).run s = .ok () t ∧
        t.record s.mapCount.toNat = ⟨BitVec.ofNat 8 f, BitVec.ofNat 32 k, h, true⟩ ∧
        (∀ j, j ≠ s.mapCount.toNat → t.record j = s.record j) ∧
        t = { s with cursors := s.cursors.set cEq (usedOn s cEq 1), map := t.map, mapCount := s.mapCount + 1 }) ∧
    (nextBitIs s cEq true → s.mapCount.toNat = s.params.mapCap →
      (cellStep f k).run s = .error .capacityExceeded { s with cursors := s.cursors.set cEq (usedOn s cEq 1) }) ∧
    (¬ canRead s cEq 1 →
      (cellStep f k).run s = .error .truncatedStream { s with cursors := s.cursors.set cEq (inError (s.cursor cEq)) })

/-- R210, R213 to R216, R219 to R222: a cell that is not reused, with or without a prior entry, whose mask has `n` set bits and whose
`n` raw codes have no two neighbours equal: the codes land on the set slots last to first, the clear slots keep the prior entry's, and
the new entry is appended, becomes the cell's last entry and is recorded in the map; or LOG or MAP is full. With `n` = 0 no code is
needed, whatever the raw-usage bit. The entry's and the record's
CELL as the low 32 bits of a cell index of 2^32 or more is the model's (log entry 6, DEDUCED). -/
def Obligations.RawCellBuildsEntry : Prop :=
  ∀ (s : State) (f k n : Nat) (h : Option Word), reachesCodes s k h → n = popcount4 (cellMask s h) →
    (s.hasRaw = true → canRead s cRawu 1) →
    (0 < n → s.hasRaw = true ∧ nextBitIs s cRawu true ∧ canRead s cRawc (8 * n)) →
    (∀ i, i + 1 < n → rawCode s i ≠ rawCode s (i + 1)) →
      ∃ e : Slots,
        (∀ i : Fin 4, slotOf e i =
          if (cellMask s h).getLsbD i.val then rawCode s (n - 1 - maskRank (cellMask s h) i.val)
          else slotOf (s.prevSlots h) i) ∧
        AppendsEntry s f k e (consumed s (equalBitDue s h).toNat (maskBits h) s.hasRaw.toNat (8 * n))

/-- R219: with no terminator the n codes c1 .. cn land on the set slots in increasing slot order as cn .. c1, and the clear slots
keep the previous entry's codes. -/
def Obligations.EntrySlotsFromCodes : Prop :=
  ∀ (mask : BitVec 4) (prev : Slots) (codes : List Byte), codes.length = popcount4 mask →
    ∀ i : Fin 4,
      (mask.getLsbD i.val = true → ∃ h : maskRank mask i.val < codes.reverse.length,
        slotOf (buildSlots mask prev codes.reverse) i = codes.reverse[maskRank mask i.val]) ∧
      (mask.getLsbD i.val = false → slotOf (buildSlots mask prev codes.reverse) i = slotOf prev i)

/-- R217, R219: when code number `m` of a cell (the 2nd, 3rd or 4th) equals the one before it, and no earlier two neighbours are equal,
it is forced to 0 and no more codes are read: 8 * m bits of raw codes are consumed; the set slots get 0, then the codes before it from
the last to the first, then 0 where none is left; the clear slots keep the prior entry's. The entry's and the record's
CELL as the low 32 bits of a cell index of 2^32 or more is the model's (log entry 6, DEDUCED). -/
def Obligations.RunTerminatorEndsCell : Prop :=
  ∀ (s : State) (f k m : Nat) (h : Option Word), reachesCodes s k h → 2 ≤ m → m ≤ popcount4 (cellMask s h) →
    s.hasRaw = true → nextBitIs s cRawu true → canRead s cRawc (8 * m) →
    rawCode s (m - 2) = rawCode s (m - 1) → (∀ i, i + 2 < m → rawCode s i ≠ rawCode s (i + 1)) →
      ∃ e : Slots,
        (∀ i : Fin 4, slotOf e i =
          if (cellMask s h).getLsbD i.val then
            if maskRank (cellMask s h) i.val = 0 then 0
            else if maskRank (cellMask s h) i.val < m then rawCode s (m - 1 - maskRank (cellMask s h) i.val)
            else 0
          else slotOf (s.prevSlots h) i) ∧
        AppendsEntry s f k e (consumed s (equalBitDue s h).toNat (maskBits h) 1 (8 * m))

/-- R210, R218 to R220, R222, R215, R207, R253: an incremental cell, with or without a prior entry, fails with IncrementalUnsupported when its mask is
not 0, nothing of LOG, MAP or LAST written; with mask 0 it needs no code and appends the prior entry's slots. A mask, a raw-usage bit
or a raw code that is not there is TruncatedStream, with what was read before it consumed. The appended entry's and record's
CELL as the low 32 bits of a cell index of 2^32 or more is the model's (log entry 6, DEDUCED). -/
def Obligations.IncrementalCellFails : Prop :=
  ∀ (s : State) (f k : Nat) (h : Option Word),
    (reachesCodes s k h → incremental s → cellMask s h ≠ 0 →
      (cellStep f k).run s = .error .incrementalUnsupported
        { s with cursors := consumed s (equalBitDue s h).toNat (maskBits h) s.hasRaw.toNat 0 }) ∧
    (reachesCodes s k h → incremental s → cellMask s h = 0 →
      AppendsEntry s f k (s.prevSlots h) (consumed s (equalBitDue s h).toNat (maskBits h) s.hasRaw.toNat 0)) ∧
    (reachesMask s k h → h.isSome = true → ¬ canRead s cMask 4 →
      (cellStep f k).run s = .error .truncatedStream
        { s with cursors := (consumed s (equalBitDue s h).toNat 0 0 0).set cMask (inError (s.cursor cMask)) }) ∧
    (reachesCodes s k h → s.hasRaw = true → ¬ canRead s cRawu 1 →
      (cellStep f k).run s = .error .truncatedStream
        { s with cursors := (consumed s (equalBitDue s h).toNat (maskBits h) 0 0).set cRawu (inError (s.cursor cRawu)) }) ∧
    (∀ i, reachesCodes s k h → s.hasRaw = true → nextBitIs s cRawu true → i < popcount4 (cellMask s h) →
      (0 < i → canRead s cRawc (8 * i)) → ¬ canRead s cRawc (8 * (i + 1)) →
      (∀ j, j + 1 < i → rawCode s j ≠ rawCode s (j + 1)) →
      (cellStep f k).run s = .error .truncatedStream
        { s with cursors :=
          (consumed s (equalBitDue s h).toNat (maskBits h) 1 (8 * i)).set cRawc (inError (usedOn s cRawc (8 * i))) })

/-- R45, R43, R49: RECON, however it ends, only appends to LOG and MAP, and no LAST slot of the grid goes back to NONE or to an
earlier entry. The premise is the invariant LogSound. -/
def Obligations.ReconKeepsLogAppendOnly : Prop :=
  ∀ s t : State, LogSound s → exec .recon s = .next t →
    s.logCount.toNat ≤ t.logCount.toNat ∧ (∀ j, j < s.logCount.toNat → t.entry j = s.entry j) ∧
    s.mapCount.toNat ≤ t.mapCount.toNat ∧ (∀ j, j < s.mapCount.toNat → t.record j = s.record j) ∧
    (∀ k h, k < s.cells → s.lastEntry k = some h → ∃ h', t.lastEntry k = some h' ∧ h.toNat ≤ h'.toNat)

/-- R207, R225, R26: what RECON and DECODE leave unchanged, however they end. RECON writes cursors 1 to 4, LAST, LOG and MAP with
their counts, STAGE, FAILED and ERR; the only LAST slots it writes are those of the cells it steps through. DECODE writes the
union of its five stages. -/
def Obligations.ReconAndDecodeFrame : Prop :=
  (∀ s t : State, exec .recon s = .next t →
    t = { s with
      err := t.err
      stage := t.stage
      failed := t.failed
      cursors := t.cursors
      last := t.last
      log := t.log
      logCount := t.logCount
      map := t.map
      mapCount := t.mapCount } ∧
    (∀ c : CursorIx, c.val = 0 ∨ 5 ≤ c.val → t.cursor c = s.cursor c) ∧
    (∀ k, (∀ f, f < s.header.fpd.toNat → k ∉ s.coveredCells f) → t.lastEntry k = s.lastEntry k)) ∧
  (∀ s t : State, exec .decodeDir s = .next t →
    t = { s with
      err := t.err
      stage := t.stage
      failed := t.failed
      cursors := t.cursors
      dirIdx := t.dirIdx
      outSize := t.outSize
      hasRaw := t.hasRaw
      compEq := t.compEq
      sels := t.sels
      extents := t.extents
      gw := t.gw
      gh := t.gh
      fh := t.fh
      sizes := t.sizes
      pctCount := t.pctCount
      pct := t.pct
      last := t.last
      log := t.log
      logCount := t.logCount
      map := t.map
      mapCount := t.mapCount } ∧
    t.cursor 6 = s.cursor 6 ∧ t.cursor 7 = s.cursor 7)

/-- R218: RECON neither reads nor moves cursor 5: whatever it holds, the outcome is the same but for that cursor. -/
def Obligations.IncrementalStreamNeverRead : Prop :=
  ∀ (s t : State) (k : Cursor), exec .recon s = .next t → exec .recon (s.setCursor cInc k) = .next (t.setCursor cInc k)

/-! ### DECODE -/

/-- R225: DECODE is DIRHDR, PREFIX, PCT, SETUP and RECON, one after the other, ended by the first that raises: the state is
exactly as if they had been issued one by one. -/
def Obligations.DecodeRunsStagesInOrder : Prop :=
  ∀ s : State, exec .decodeDir s =
    thenStage (thenStage (thenStage (thenStage (exec .dirhdr s) .readPrefix) .pct) .setup) .recon

/-- R225, R168, R207: DECODE of a direction without frames (FPD = 0) whose bytes hold the 62-bit header, the prefixes, the
presence map and the sub-streams succeeds, with an empty log and map and zero extents. -/
def Obligations.DecodeFramelessDirection : Prop :=
  ∀ (s : State) (a n b q : Nat) (raw eq : Bool), directionSelected s → directionBytes s a n → s.header.fpd.toNat = 0 →
    b = 8 * a → raw = srcBit s.src (b + 32) → eq = srcBit s.src (b + 33) → q = b + 62 + 20 * eq.toNat →
    62 + 20 * (eq.toNat + 1 + 2 * raw.toNat) + 256 + (if eq then fieldAt s.src (b + 62) 20 else 0) + fieldAt s.src q 20
      + (if raw then fieldAt s.src (q + 20) 20 + fieldAt s.src (q + 40) 20 else 0) ≤ 8 * n →
      ∃ t, exec .decodeDir s = .next t ∧ t.err = none ∧ t.stage = .done ∧ t.failed = false ∧ t.outputValid = true ∧
        t.extents = ⟨0, 0, 0, 0⟩ ∧ t.gw = 0 ∧ t.gh = 0 ∧ t.logCount = 0 ∧ t.mapCount = 0 ∧ t.hasRaw = raw ∧ t.compEq = eq

/-! ### All commands -/

/-- R255, R11, R23, R30: every command completes; and no command writes SRC, SRCLEN, SRCCTL, ARG0 or ARG1. -/
def Obligations.CommandsNeverWriteHostState : Prop :=
  ∀ (i : Instr) (s : State), ∃ t, exec i s = .next t ∧ t.src = s.src ∧ t.srcLen = s.srcLen ∧ t.srcValid = s.srcValid ∧
    t.arg0 = s.arg0 ∧ t.arg1 = s.arg1 ∧ t.params = s.params ∧ t.hostQueue = s.hostQueue

/-- R28, R110, R252, R253, R27: a bit-reader command leaves STAGE and FAILED; a stage command that succeeds leaves FAILED = 0 and its
own stage; one that raises a data error sets FAILED and leaves STAGE at the last stage completed; one that raises a command error
changes only ERR. (Which stage DECODE leaves is that of the step that raised: DecodeRunsStagesInOrder.) -/
def Obligations.FailedFollowsStageErrors : Prop :=
  ∀ (i : Instr) (s t : State), exec i s = .next t →
    (bitReaderCursor i ≠ none → t.stage = s.stage ∧ t.failed = s.failed) ∧
    (bitReaderCursor i = none →
      ∃ (completed : Stage) (kept : List Stage), (i, completed, kept) ∈ stageEnds ∧
        (t.err = none → t.failed = false ∧ t.stage = completed) ∧
        (∀ e, t.err = some e → isDataError e = true → t.failed = true ∧ t.stage ∈ kept) ∧
        (∀ e, t.err = some e → isDataError e = false → t = { s with err := t.err }))

/-! ### Invariants -/

/-- The sparse stores keep their canonical form in every step (the model's own representation of R30 and R60). -/
def Obligations.StoresStayCanonical : Prop := ∀ s t : State, StoresCanonical s → step s = .next t → StoresCanonical t

/-- R24, R31, R61: in every step each cursor's position stays inside its range, and its range inside the source memory. -/
def Obligations.CursorsStayInRange : Prop := ∀ s t : State, CursorsInRange s → step s = .next t → CursorsInRange t

/-- R78, R145: while a file is open its offset table stays strictly increasing up to SRCLEN, and SRC_VALID stays 1. -/
def Obligations.OffsetTableStaysOrdered : Prop := ∀ s t : State, OffsetsOrdered s → step s = .next t → OffsetsOrdered t

/-- R190, R191: PCT stays strictly increasing below PCTCOUNT while STAGE ≥ PCT. -/
def Obligations.CodeTableStaysOrdered : Prop := ∀ s t : State, CodesOrdered s → step s = .next t → CodesOrdered t

/-- R166, R168, R203: from stage HDR on the direction extents are ordered and hold every frame, and their grid fits GW and GH,
which are its size from stage SETUP on. -/
def Obligations.GeometryStaysSound : Prop := ∀ s t : State, GeometrySound s → step s = .next t → GeometrySound t

/-- R49: every LAST slot of the grid that is not NONE is an entry of the log for its own cell, and MAPCOUNT ≥ LOGCOUNT, from
SETUP on; LOG and MAP stay within their capacities. For its own cell means the low 32 bits of the cell's index, which is the
model's for an index of 2^32 or more (log entry 6, DEDUCED). -/
def Obligations.LogStaysSound : Prop := ∀ s t : State, LogSound s → step s = .next t → LogSound t

/-- The six invariants hold at reset (of the values the model chose, log entries 4 and 5, too). -/
def Obligations.InvariantsHoldAtReset : Prop :=
  StoresCanonical State.reset ∧ CursorsInRange State.reset ∧ OffsetsOrdered State.reset ∧ CodesOrdered State.reset ∧
    GeometrySound State.reset ∧ LogSound State.reset
end

