-- ==== Sys2Proof/Laws/State.lean ====
section
/-! SUPPORT. The small lemmas of State: for every named write, what each field holds after it. All true by rfl, so that no
proof unfolds a record update. -/
namespace Sys2Proof.Machine

/-! ### setCursor -/

@[simp] theorem State.setCursor_arg0 (s : State) (c : CursorIx) (k : Cursor) : (s.setCursor c k).arg0 = s.arg0 := rfl
@[simp] theorem State.setCursor_arg1 (s : State) (c : CursorIx) (k : Cursor) : (s.setCursor c k).arg1 = s.arg1 := rfl
@[simp] theorem State.setCursor_res (s : State) (c : CursorIx) (k : Cursor) : (s.setCursor c k).res = s.res := rfl
@[simp] theorem State.setCursor_err (s : State) (c : CursorIx) (k : Cursor) : (s.setCursor c k).err = s.err := rfl
@[simp] theorem State.setCursor_stage (s : State) (c : CursorIx) (k : Cursor) : (s.setCursor c k).stage = s.stage := rfl
@[simp] theorem State.setCursor_failed (s : State) (c : CursorIx) (k : Cursor) : (s.setCursor c k).failed = s.failed := rfl
@[simp] theorem State.setCursor_src (s : State) (c : CursorIx) (k : Cursor) : (s.setCursor c k).src = s.src := rfl
@[simp] theorem State.setCursor_srcLen (s : State) (c : CursorIx) (k : Cursor) : (s.setCursor c k).srcLen = s.srcLen := rfl
@[simp] theorem State.setCursor_srcValid (s : State) (c : CursorIx) (k : Cursor) : (s.setCursor c k).srcValid = s.srcValid := rfl
@[simp] theorem State.setCursor_cursors (s : State) (c : CursorIx) (k : Cursor) : (s.setCursor c k).cursors = s.cursors.set c k := rfl
@[simp] theorem State.setCursor_header (s : State) (c : CursorIx) (k : Cursor) : (s.setCursor c k).header = s.header := rfl
@[simp] theorem State.setCursor_offt (s : State) (c : CursorIx) (k : Cursor) : (s.setCursor c k).offt = s.offt := rfl
@[simp] theorem State.setCursor_dirIdx (s : State) (c : CursorIx) (k : Cursor) : (s.setCursor c k).dirIdx = s.dirIdx := rfl
@[simp] theorem State.setCursor_outSize (s : State) (c : CursorIx) (k : Cursor) : (s.setCursor c k).outSize = s.outSize := rfl
@[simp] theorem State.setCursor_hasRaw (s : State) (c : CursorIx) (k : Cursor) : (s.setCursor c k).hasRaw = s.hasRaw := rfl
@[simp] theorem State.setCursor_compEq (s : State) (c : CursorIx) (k : Cursor) : (s.setCursor c k).compEq = s.compEq := rfl
@[simp] theorem State.setCursor_sels (s : State) (c : CursorIx) (k : Cursor) : (s.setCursor c k).sels = s.sels := rfl
@[simp] theorem State.setCursor_extents (s : State) (c : CursorIx) (k : Cursor) : (s.setCursor c k).extents = s.extents := rfl
@[simp] theorem State.setCursor_gw (s : State) (c : CursorIx) (k : Cursor) : (s.setCursor c k).gw = s.gw := rfl
@[simp] theorem State.setCursor_gh (s : State) (c : CursorIx) (k : Cursor) : (s.setCursor c k).gh = s.gh := rfl
@[simp] theorem State.setCursor_fh (s : State) (c : CursorIx) (k : Cursor) : (s.setCursor c k).fh = s.fh := rfl
@[simp] theorem State.setCursor_sizes (s : State) (c : CursorIx) (k : Cursor) : (s.setCursor c k).sizes = s.sizes := rfl
@[simp] theorem State.setCursor_pctCount (s : State) (c : CursorIx) (k : Cursor) : (s.setCursor c k).pctCount = s.pctCount := rfl
@[simp] theorem State.setCursor_pct (s : State) (c : CursorIx) (k : Cursor) : (s.setCursor c k).pct = s.pct := rfl
@[simp] theorem State.setCursor_last (s : State) (c : CursorIx) (k : Cursor) : (s.setCursor c k).last = s.last := rfl
@[simp] theorem State.setCursor_log (s : State) (c : CursorIx) (k : Cursor) : (s.setCursor c k).log = s.log := rfl
@[simp] theorem State.setCursor_logCount (s : State) (c : CursorIx) (k : Cursor) : (s.setCursor c k).logCount = s.logCount := rfl
@[simp] theorem State.setCursor_map (s : State) (c : CursorIx) (k : Cursor) : (s.setCursor c k).map = s.map := rfl
@[simp] theorem State.setCursor_mapCount (s : State) (c : CursorIx) (k : Cursor) : (s.setCursor c k).mapCount = s.mapCount := rfl
@[simp] theorem State.setCursor_params (s : State) (c : CursorIx) (k : Cursor) : (s.setCursor c k).params = s.params := rfl
@[simp] theorem State.setCursor_hostQueue (s : State) (c : CursorIx) (k : Cursor) : (s.setCursor c k).hostQueue = s.hostQueue := rfl

/-! ### setOffset -/

@[simp] theorem State.setOffset_arg0 (s : State) (i : Nat) (v : Word) : (s.setOffset i v).arg0 = s.arg0 := rfl
@[simp] theorem State.setOffset_arg1 (s : State) (i : Nat) (v : Word) : (s.setOffset i v).arg1 = s.arg1 := rfl
@[simp] theorem State.setOffset_res (s : State) (i : Nat) (v : Word) : (s.setOffset i v).res = s.res := rfl
@[simp] theorem State.setOffset_err (s : State) (i : Nat) (v : Word) : (s.setOffset i v).err = s.err := rfl
@[simp] theorem State.setOffset_stage (s : State) (i : Nat) (v : Word) : (s.setOffset i v).stage = s.stage := rfl
@[simp] theorem State.setOffset_failed (s : State) (i : Nat) (v : Word) : (s.setOffset i v).failed = s.failed := rfl
@[simp] theorem State.setOffset_src (s : State) (i : Nat) (v : Word) : (s.setOffset i v).src = s.src := rfl
@[simp] theorem State.setOffset_srcLen (s : State) (i : Nat) (v : Word) : (s.setOffset i v).srcLen = s.srcLen := rfl
@[simp] theorem State.setOffset_srcValid (s : State) (i : Nat) (v : Word) : (s.setOffset i v).srcValid = s.srcValid := rfl
@[simp] theorem State.setOffset_cursors (s : State) (i : Nat) (v : Word) : (s.setOffset i v).cursors = s.cursors := rfl
@[simp] theorem State.setOffset_header (s : State) (i : Nat) (v : Word) : (s.setOffset i v).header = s.header := rfl
@[simp] theorem State.setOffset_offt (s : State) (i : Nat) (v : Word) : (s.setOffset i v).offt = Store.set 0 s.offt i v := rfl
@[simp] theorem State.setOffset_dirIdx (s : State) (i : Nat) (v : Word) : (s.setOffset i v).dirIdx = s.dirIdx := rfl
@[simp] theorem State.setOffset_outSize (s : State) (i : Nat) (v : Word) : (s.setOffset i v).outSize = s.outSize := rfl
@[simp] theorem State.setOffset_hasRaw (s : State) (i : Nat) (v : Word) : (s.setOffset i v).hasRaw = s.hasRaw := rfl
@[simp] theorem State.setOffset_compEq (s : State) (i : Nat) (v : Word) : (s.setOffset i v).compEq = s.compEq := rfl
@[simp] theorem State.setOffset_sels (s : State) (i : Nat) (v : Word) : (s.setOffset i v).sels = s.sels := rfl
@[simp] theorem State.setOffset_extents (s : State) (i : Nat) (v : Word) : (s.setOffset i v).extents = s.extents := rfl
@[simp] theorem State.setOffset_gw (s : State) (i : Nat) (v : Word) : (s.setOffset i v).gw = s.gw := rfl
@[simp] theorem State.setOffset_gh (s : State) (i : Nat) (v : Word) : (s.setOffset i v).gh = s.gh := rfl
@[simp] theorem State.setOffset_fh (s : State) (i : Nat) (v : Word) : (s.setOffset i v).fh = s.fh := rfl
@[simp] theorem State.setOffset_sizes (s : State) (i : Nat) (v : Word) : (s.setOffset i v).sizes = s.sizes := rfl
@[simp] theorem State.setOffset_pctCount (s : State) (i : Nat) (v : Word) : (s.setOffset i v).pctCount = s.pctCount := rfl
@[simp] theorem State.setOffset_pct (s : State) (i : Nat) (v : Word) : (s.setOffset i v).pct = s.pct := rfl
@[simp] theorem State.setOffset_last (s : State) (i : Nat) (v : Word) : (s.setOffset i v).last = s.last := rfl
@[simp] theorem State.setOffset_log (s : State) (i : Nat) (v : Word) : (s.setOffset i v).log = s.log := rfl
@[simp] theorem State.setOffset_logCount (s : State) (i : Nat) (v : Word) : (s.setOffset i v).logCount = s.logCount := rfl
@[simp] theorem State.setOffset_map (s : State) (i : Nat) (v : Word) : (s.setOffset i v).map = s.map := rfl
@[simp] theorem State.setOffset_mapCount (s : State) (i : Nat) (v : Word) : (s.setOffset i v).mapCount = s.mapCount := rfl
@[simp] theorem State.setOffset_params (s : State) (i : Nat) (v : Word) : (s.setOffset i v).params = s.params := rfl
@[simp] theorem State.setOffset_hostQueue (s : State) (i : Nat) (v : Word) : (s.setOffset i v).hostQueue = s.hostQueue := rfl

/-! ### setFrame -/

@[simp] theorem State.setFrame_arg0 (s : State) (f : Nat) (h : FrameHeader) : (s.setFrame f h).arg0 = s.arg0 := rfl
@[simp] theorem State.setFrame_arg1 (s : State) (f : Nat) (h : FrameHeader) : (s.setFrame f h).arg1 = s.arg1 := rfl
@[simp] theorem State.setFrame_res (s : State) (f : Nat) (h : FrameHeader) : (s.setFrame f h).res = s.res := rfl
@[simp] theorem State.setFrame_err (s : State) (f : Nat) (h : FrameHeader) : (s.setFrame f h).err = s.err := rfl
@[simp] theorem State.setFrame_stage (s : State) (f : Nat) (h : FrameHeader) : (s.setFrame f h).stage = s.stage := rfl
@[simp] theorem State.setFrame_failed (s : State) (f : Nat) (h : FrameHeader) : (s.setFrame f h).failed = s.failed := rfl
@[simp] theorem State.setFrame_src (s : State) (f : Nat) (h : FrameHeader) : (s.setFrame f h).src = s.src := rfl
@[simp] theorem State.setFrame_srcLen (s : State) (f : Nat) (h : FrameHeader) : (s.setFrame f h).srcLen = s.srcLen := rfl
@[simp] theorem State.setFrame_srcValid (s : State) (f : Nat) (h : FrameHeader) : (s.setFrame f h).srcValid = s.srcValid := rfl
@[simp] theorem State.setFrame_cursors (s : State) (f : Nat) (h : FrameHeader) : (s.setFrame f h).cursors = s.cursors := rfl
@[simp] theorem State.setFrame_header (s : State) (f : Nat) (h : FrameHeader) : (s.setFrame f h).header = s.header := rfl
@[simp] theorem State.setFrame_offt (s : State) (f : Nat) (h : FrameHeader) : (s.setFrame f h).offt = s.offt := rfl
@[simp] theorem State.setFrame_dirIdx (s : State) (f : Nat) (h : FrameHeader) : (s.setFrame f h).dirIdx = s.dirIdx := rfl
@[simp] theorem State.setFrame_outSize (s : State) (f : Nat) (h : FrameHeader) : (s.setFrame f h).outSize = s.outSize := rfl
@[simp] theorem State.setFrame_hasRaw (s : State) (f : Nat) (h : FrameHeader) : (s.setFrame f h).hasRaw = s.hasRaw := rfl
@[simp] theorem State.setFrame_compEq (s : State) (f : Nat) (h : FrameHeader) : (s.setFrame f h).compEq = s.compEq := rfl
@[simp] theorem State.setFrame_sels (s : State) (f : Nat) (h : FrameHeader) : (s.setFrame f h).sels = s.sels := rfl
@[simp] theorem State.setFrame_extents (s : State) (f : Nat) (h : FrameHeader) : (s.setFrame f h).extents = s.extents := rfl
@[simp] theorem State.setFrame_gw (s : State) (f : Nat) (h : FrameHeader) : (s.setFrame f h).gw = s.gw := rfl
@[simp] theorem State.setFrame_gh (s : State) (f : Nat) (h : FrameHeader) : (s.setFrame f h).gh = s.gh := rfl
@[simp] theorem State.setFrame_fh (s : State) (f : Nat) (h : FrameHeader) : (s.setFrame f h).fh = Store.set FrameHeader.zero s.fh f h := rfl
@[simp] theorem State.setFrame_sizes (s : State) (f : Nat) (h : FrameHeader) : (s.setFrame f h).sizes = s.sizes := rfl
@[simp] theorem State.setFrame_pctCount (s : State) (f : Nat) (h : FrameHeader) : (s.setFrame f h).pctCount = s.pctCount := rfl
@[simp] theorem State.setFrame_pct (s : State) (f : Nat) (h : FrameHeader) : (s.setFrame f h).pct = s.pct := rfl
@[simp] theorem State.setFrame_last (s : State) (f : Nat) (h : FrameHeader) : (s.setFrame f h).last = s.last := rfl
@[simp] theorem State.setFrame_log (s : State) (f : Nat) (h : FrameHeader) : (s.setFrame f h).log = s.log := rfl
@[simp] theorem State.setFrame_logCount (s : State) (f : Nat) (h : FrameHeader) : (s.setFrame f h).logCount = s.logCount := rfl
@[simp] theorem State.setFrame_map (s : State) (f : Nat) (h : FrameHeader) : (s.setFrame f h).map = s.map := rfl
@[simp] theorem State.setFrame_mapCount (s : State) (f : Nat) (h : FrameHeader) : (s.setFrame f h).mapCount = s.mapCount := rfl
@[simp] theorem State.setFrame_params (s : State) (f : Nat) (h : FrameHeader) : (s.setFrame f h).params = s.params := rfl
@[simp] theorem State.setFrame_hostQueue (s : State) (f : Nat) (h : FrameHeader) : (s.setFrame f h).hostQueue = s.hostQueue := rfl

/-! ### putCode -/

@[simp] theorem State.putCode_arg0 (s : State) (j : Byte) : (s.putCode j).arg0 = s.arg0 := rfl
@[simp] theorem State.putCode_arg1 (s : State) (j : Byte) : (s.putCode j).arg1 = s.arg1 := rfl
@[simp] theorem State.putCode_res (s : State) (j : Byte) : (s.putCode j).res = s.res := rfl
@[simp] theorem State.putCode_err (s : State) (j : Byte) : (s.putCode j).err = s.err := rfl
@[simp] theorem State.putCode_stage (s : State) (j : Byte) : (s.putCode j).stage = s.stage := rfl
@[simp] theorem State.putCode_failed (s : State) (j : Byte) : (s.putCode j).failed = s.failed := rfl
@[simp] theorem State.putCode_src (s : State) (j : Byte) : (s.putCode j).src = s.src := rfl
@[simp] theorem State.putCode_srcLen (s : State) (j : Byte) : (s.putCode j).srcLen = s.srcLen := rfl
@[simp] theorem State.putCode_srcValid (s : State) (j : Byte) : (s.putCode j).srcValid = s.srcValid := rfl
@[simp] theorem State.putCode_cursors (s : State) (j : Byte) : (s.putCode j).cursors = s.cursors := rfl
@[simp] theorem State.putCode_header (s : State) (j : Byte) : (s.putCode j).header = s.header := rfl
@[simp] theorem State.putCode_offt (s : State) (j : Byte) : (s.putCode j).offt = s.offt := rfl
@[simp] theorem State.putCode_dirIdx (s : State) (j : Byte) : (s.putCode j).dirIdx = s.dirIdx := rfl
@[simp] theorem State.putCode_outSize (s : State) (j : Byte) : (s.putCode j).outSize = s.outSize := rfl
@[simp] theorem State.putCode_hasRaw (s : State) (j : Byte) : (s.putCode j).hasRaw = s.hasRaw := rfl
@[simp] theorem State.putCode_compEq (s : State) (j : Byte) : (s.putCode j).compEq = s.compEq := rfl
@[simp] theorem State.putCode_sels (s : State) (j : Byte) : (s.putCode j).sels = s.sels := rfl
@[simp] theorem State.putCode_extents (s : State) (j : Byte) : (s.putCode j).extents = s.extents := rfl
@[simp] theorem State.putCode_gw (s : State) (j : Byte) : (s.putCode j).gw = s.gw := rfl
@[simp] theorem State.putCode_gh (s : State) (j : Byte) : (s.putCode j).gh = s.gh := rfl
@[simp] theorem State.putCode_fh (s : State) (j : Byte) : (s.putCode j).fh = s.fh := rfl
@[simp] theorem State.putCode_sizes (s : State) (j : Byte) : (s.putCode j).sizes = s.sizes := rfl
@[simp] theorem State.putCode_pctCount (s : State) (j : Byte) : (s.putCode j).pctCount = s.pctCount + 1 := rfl
@[simp] theorem State.putCode_pct (s : State) (j : Byte) : (s.putCode j).pct = Store.set 0 s.pct s.pctCount.toNat j := rfl
@[simp] theorem State.putCode_last (s : State) (j : Byte) : (s.putCode j).last = s.last := rfl
@[simp] theorem State.putCode_log (s : State) (j : Byte) : (s.putCode j).log = s.log := rfl
@[simp] theorem State.putCode_logCount (s : State) (j : Byte) : (s.putCode j).logCount = s.logCount := rfl
@[simp] theorem State.putCode_map (s : State) (j : Byte) : (s.putCode j).map = s.map := rfl
@[simp] theorem State.putCode_mapCount (s : State) (j : Byte) : (s.putCode j).mapCount = s.mapCount := rfl
@[simp] theorem State.putCode_params (s : State) (j : Byte) : (s.putCode j).params = s.params := rfl
@[simp] theorem State.putCode_hostQueue (s : State) (j : Byte) : (s.putCode j).hostQueue = s.hostQueue := rfl

/-! ### setLast -/

@[simp] theorem State.setLast_arg0 (s : State) (k : Nat) (j : Word) : (s.setLast k j).arg0 = s.arg0 := rfl
@[simp] theorem State.setLast_arg1 (s : State) (k : Nat) (j : Word) : (s.setLast k j).arg1 = s.arg1 := rfl
@[simp] theorem State.setLast_res (s : State) (k : Nat) (j : Word) : (s.setLast k j).res = s.res := rfl
@[simp] theorem State.setLast_err (s : State) (k : Nat) (j : Word) : (s.setLast k j).err = s.err := rfl
@[simp] theorem State.setLast_stage (s : State) (k : Nat) (j : Word) : (s.setLast k j).stage = s.stage := rfl
@[simp] theorem State.setLast_failed (s : State) (k : Nat) (j : Word) : (s.setLast k j).failed = s.failed := rfl
@[simp] theorem State.setLast_src (s : State) (k : Nat) (j : Word) : (s.setLast k j).src = s.src := rfl
@[simp] theorem State.setLast_srcLen (s : State) (k : Nat) (j : Word) : (s.setLast k j).srcLen = s.srcLen := rfl
@[simp] theorem State.setLast_srcValid (s : State) (k : Nat) (j : Word) : (s.setLast k j).srcValid = s.srcValid := rfl
@[simp] theorem State.setLast_cursors (s : State) (k : Nat) (j : Word) : (s.setLast k j).cursors = s.cursors := rfl
@[simp] theorem State.setLast_header (s : State) (k : Nat) (j : Word) : (s.setLast k j).header = s.header := rfl
@[simp] theorem State.setLast_offt (s : State) (k : Nat) (j : Word) : (s.setLast k j).offt = s.offt := rfl
@[simp] theorem State.setLast_dirIdx (s : State) (k : Nat) (j : Word) : (s.setLast k j).dirIdx = s.dirIdx := rfl
@[simp] theorem State.setLast_outSize (s : State) (k : Nat) (j : Word) : (s.setLast k j).outSize = s.outSize := rfl
@[simp] theorem State.setLast_hasRaw (s : State) (k : Nat) (j : Word) : (s.setLast k j).hasRaw = s.hasRaw := rfl
@[simp] theorem State.setLast_compEq (s : State) (k : Nat) (j : Word) : (s.setLast k j).compEq = s.compEq := rfl
@[simp] theorem State.setLast_sels (s : State) (k : Nat) (j : Word) : (s.setLast k j).sels = s.sels := rfl
@[simp] theorem State.setLast_extents (s : State) (k : Nat) (j : Word) : (s.setLast k j).extents = s.extents := rfl
@[simp] theorem State.setLast_gw (s : State) (k : Nat) (j : Word) : (s.setLast k j).gw = s.gw := rfl
@[simp] theorem State.setLast_gh (s : State) (k : Nat) (j : Word) : (s.setLast k j).gh = s.gh := rfl
@[simp] theorem State.setLast_fh (s : State) (k : Nat) (j : Word) : (s.setLast k j).fh = s.fh := rfl
@[simp] theorem State.setLast_sizes (s : State) (k : Nat) (j : Word) : (s.setLast k j).sizes = s.sizes := rfl
@[simp] theorem State.setLast_pctCount (s : State) (k : Nat) (j : Word) : (s.setLast k j).pctCount = s.pctCount := rfl
@[simp] theorem State.setLast_pct (s : State) (k : Nat) (j : Word) : (s.setLast k j).pct = s.pct := rfl
@[simp] theorem State.setLast_last (s : State) (k : Nat) (j : Word) : (s.setLast k j).last = Store.set none s.last k (some j) := rfl
@[simp] theorem State.setLast_log (s : State) (k : Nat) (j : Word) : (s.setLast k j).log = s.log := rfl
@[simp] theorem State.setLast_logCount (s : State) (k : Nat) (j : Word) : (s.setLast k j).logCount = s.logCount := rfl
@[simp] theorem State.setLast_map (s : State) (k : Nat) (j : Word) : (s.setLast k j).map = s.map := rfl
@[simp] theorem State.setLast_mapCount (s : State) (k : Nat) (j : Word) : (s.setLast k j).mapCount = s.mapCount := rfl
@[simp] theorem State.setLast_params (s : State) (k : Nat) (j : Word) : (s.setLast k j).params = s.params := rfl
@[simp] theorem State.setLast_hostQueue (s : State) (k : Nat) (j : Word) : (s.setLast k j).hostQueue = s.hostQueue := rfl

/-! ### putEntry -/

@[simp] theorem State.putEntry_arg0 (s : State) (e : LogEntry) : (s.putEntry e).arg0 = s.arg0 := rfl
@[simp] theorem State.putEntry_arg1 (s : State) (e : LogEntry) : (s.putEntry e).arg1 = s.arg1 := rfl
@[simp] theorem State.putEntry_res (s : State) (e : LogEntry) : (s.putEntry e).res = s.res := rfl
@[simp] theorem State.putEntry_err (s : State) (e : LogEntry) : (s.putEntry e).err = s.err := rfl
@[simp] theorem State.putEntry_stage (s : State) (e : LogEntry) : (s.putEntry e).stage = s.stage := rfl
@[simp] theorem State.putEntry_failed (s : State) (e : LogEntry) : (s.putEntry e).failed = s.failed := rfl
@[simp] theorem State.putEntry_src (s : State) (e : LogEntry) : (s.putEntry e).src = s.src := rfl
@[simp] theorem State.putEntry_srcLen (s : State) (e : LogEntry) : (s.putEntry e).srcLen = s.srcLen := rfl
@[simp] theorem State.putEntry_srcValid (s : State) (e : LogEntry) : (s.putEntry e).srcValid = s.srcValid := rfl
@[simp] theorem State.putEntry_cursors (s : State) (e : LogEntry) : (s.putEntry e).cursors = s.cursors := rfl
@[simp] theorem State.putEntry_header (s : State) (e : LogEntry) : (s.putEntry e).header = s.header := rfl
@[simp] theorem State.putEntry_offt (s : State) (e : LogEntry) : (s.putEntry e).offt = s.offt := rfl
@[simp] theorem State.putEntry_dirIdx (s : State) (e : LogEntry) : (s.putEntry e).dirIdx = s.dirIdx := rfl
@[simp] theorem State.putEntry_outSize (s : State) (e : LogEntry) : (s.putEntry e).outSize = s.outSize := rfl
@[simp] theorem State.putEntry_hasRaw (s : State) (e : LogEntry) : (s.putEntry e).hasRaw = s.hasRaw := rfl
@[simp] theorem State.putEntry_compEq (s : State) (e : LogEntry) : (s.putEntry e).compEq = s.compEq := rfl
@[simp] theorem State.putEntry_sels (s : State) (e : LogEntry) : (s.putEntry e).sels = s.sels := rfl
@[simp] theorem State.putEntry_extents (s : State) (e : LogEntry) : (s.putEntry e).extents = s.extents := rfl
@[simp] theorem State.putEntry_gw (s : State) (e : LogEntry) : (s.putEntry e).gw = s.gw := rfl
@[simp] theorem State.putEntry_gh (s : State) (e : LogEntry) : (s.putEntry e).gh = s.gh := rfl
@[simp] theorem State.putEntry_fh (s : State) (e : LogEntry) : (s.putEntry e).fh = s.fh := rfl
@[simp] theorem State.putEntry_sizes (s : State) (e : LogEntry) : (s.putEntry e).sizes = s.sizes := rfl
@[simp] theorem State.putEntry_pctCount (s : State) (e : LogEntry) : (s.putEntry e).pctCount = s.pctCount := rfl
@[simp] theorem State.putEntry_pct (s : State) (e : LogEntry) : (s.putEntry e).pct = s.pct := rfl
@[simp] theorem State.putEntry_last (s : State) (e : LogEntry) : (s.putEntry e).last = s.last := rfl
@[simp] theorem State.putEntry_log (s : State) (e : LogEntry) : (s.putEntry e).log = Store.set LogEntry.zero s.log s.logCount.toNat e := rfl
@[simp] theorem State.putEntry_logCount (s : State) (e : LogEntry) : (s.putEntry e).logCount = s.logCount + 1 := rfl
@[simp] theorem State.putEntry_map (s : State) (e : LogEntry) : (s.putEntry e).map = s.map := rfl
@[simp] theorem State.putEntry_mapCount (s : State) (e : LogEntry) : (s.putEntry e).mapCount = s.mapCount := rfl
@[simp] theorem State.putEntry_params (s : State) (e : LogEntry) : (s.putEntry e).params = s.params := rfl
@[simp] theorem State.putEntry_hostQueue (s : State) (e : LogEntry) : (s.putEntry e).hostQueue = s.hostQueue := rfl

/-! ### putRecord -/

@[simp] theorem State.putRecord_arg0 (s : State) (r : MapRecord) : (s.putRecord r).arg0 = s.arg0 := rfl
@[simp] theorem State.putRecord_arg1 (s : State) (r : MapRecord) : (s.putRecord r).arg1 = s.arg1 := rfl
@[simp] theorem State.putRecord_res (s : State) (r : MapRecord) : (s.putRecord r).res = s.res := rfl
@[simp] theorem State.putRecord_err (s : State) (r : MapRecord) : (s.putRecord r).err = s.err := rfl
@[simp] theorem State.putRecord_stage (s : State) (r : MapRecord) : (s.putRecord r).stage = s.stage := rfl
@[simp] theorem State.putRecord_failed (s : State) (r : MapRecord) : (s.putRecord r).failed = s.failed := rfl
@[simp] theorem State.putRecord_src (s : State) (r : MapRecord) : (s.putRecord r).src = s.src := rfl
@[simp] theorem State.putRecord_srcLen (s : State) (r : MapRecord) : (s.putRecord r).srcLen = s.srcLen := rfl
@[simp] theorem State.putRecord_srcValid (s : State) (r : MapRecord) : (s.putRecord r).srcValid = s.srcValid := rfl
@[simp] theorem State.putRecord_cursors (s : State) (r : MapRecord) : (s.putRecord r).cursors = s.cursors := rfl
@[simp] theorem State.putRecord_header (s : State) (r : MapRecord) : (s.putRecord r).header = s.header := rfl
@[simp] theorem State.putRecord_offt (s : State) (r : MapRecord) : (s.putRecord r).offt = s.offt := rfl
@[simp] theorem State.putRecord_dirIdx (s : State) (r : MapRecord) : (s.putRecord r).dirIdx = s.dirIdx := rfl
@[simp] theorem State.putRecord_outSize (s : State) (r : MapRecord) : (s.putRecord r).outSize = s.outSize := rfl
@[simp] theorem State.putRecord_hasRaw (s : State) (r : MapRecord) : (s.putRecord r).hasRaw = s.hasRaw := rfl
@[simp] theorem State.putRecord_compEq (s : State) (r : MapRecord) : (s.putRecord r).compEq = s.compEq := rfl
@[simp] theorem State.putRecord_sels (s : State) (r : MapRecord) : (s.putRecord r).sels = s.sels := rfl
@[simp] theorem State.putRecord_extents (s : State) (r : MapRecord) : (s.putRecord r).extents = s.extents := rfl
@[simp] theorem State.putRecord_gw (s : State) (r : MapRecord) : (s.putRecord r).gw = s.gw := rfl
@[simp] theorem State.putRecord_gh (s : State) (r : MapRecord) : (s.putRecord r).gh = s.gh := rfl
@[simp] theorem State.putRecord_fh (s : State) (r : MapRecord) : (s.putRecord r).fh = s.fh := rfl
@[simp] theorem State.putRecord_sizes (s : State) (r : MapRecord) : (s.putRecord r).sizes = s.sizes := rfl
@[simp] theorem State.putRecord_pctCount (s : State) (r : MapRecord) : (s.putRecord r).pctCount = s.pctCount := rfl
@[simp] theorem State.putRecord_pct (s : State) (r : MapRecord) : (s.putRecord r).pct = s.pct := rfl
@[simp] theorem State.putRecord_last (s : State) (r : MapRecord) : (s.putRecord r).last = s.last := rfl
@[simp] theorem State.putRecord_log (s : State) (r : MapRecord) : (s.putRecord r).log = s.log := rfl
@[simp] theorem State.putRecord_logCount (s : State) (r : MapRecord) : (s.putRecord r).logCount = s.logCount := rfl
@[simp] theorem State.putRecord_map (s : State) (r : MapRecord) : (s.putRecord r).map = Store.set MapRecord.zero s.map s.mapCount.toNat r := rfl
@[simp] theorem State.putRecord_mapCount (s : State) (r : MapRecord) : (s.putRecord r).mapCount = s.mapCount + 1 := rfl
@[simp] theorem State.putRecord_params (s : State) (r : MapRecord) : (s.putRecord r).params = s.params := rfl
@[simp] theorem State.putRecord_hostQueue (s : State) (r : MapRecord) : (s.putRecord r).hostQueue = s.hostQueue := rfl

/-! ### release -/

@[simp] theorem State.release_arg0 (s : State) : s.release.arg0 = s.arg0 := rfl
@[simp] theorem State.release_arg1 (s : State) : s.release.arg1 = s.arg1 := rfl
@[simp] theorem State.release_res (s : State) : s.release.res = s.res := rfl
@[simp] theorem State.release_err (s : State) : s.release.err = s.err := rfl
@[simp] theorem State.release_stage (s : State) : s.release.stage = .idle := rfl
@[simp] theorem State.release_failed (s : State) : s.release.failed = false := rfl
@[simp] theorem State.release_src (s : State) : s.release.src = s.src := rfl
@[simp] theorem State.release_srcLen (s : State) : s.release.srcLen = s.srcLen := rfl
@[simp] theorem State.release_srcValid (s : State) : s.release.srcValid = s.srcValid := rfl
@[simp] theorem State.release_cursors (s : State) : s.release.cursors = s.cursors := rfl
@[simp] theorem State.release_header (s : State) : s.release.header = s.header := rfl
@[simp] theorem State.release_offt (s : State) : s.release.offt = s.offt := rfl
@[simp] theorem State.release_dirIdx (s : State) : s.release.dirIdx = s.dirIdx := rfl
@[simp] theorem State.release_outSize (s : State) : s.release.outSize = s.outSize := rfl
@[simp] theorem State.release_hasRaw (s : State) : s.release.hasRaw = s.hasRaw := rfl
@[simp] theorem State.release_compEq (s : State) : s.release.compEq = s.compEq := rfl
@[simp] theorem State.release_sels (s : State) : s.release.sels = s.sels := rfl
@[simp] theorem State.release_extents (s : State) : s.release.extents = s.extents := rfl
@[simp] theorem State.release_gw (s : State) : s.release.gw = s.gw := rfl
@[simp] theorem State.release_gh (s : State) : s.release.gh = s.gh := rfl
@[simp] theorem State.release_fh (s : State) : s.release.fh = s.fh := rfl
@[simp] theorem State.release_sizes (s : State) : s.release.sizes = s.sizes := rfl
@[simp] theorem State.release_pctCount (s : State) : s.release.pctCount = s.pctCount := rfl
@[simp] theorem State.release_pct (s : State) : s.release.pct = s.pct := rfl
@[simp] theorem State.release_last (s : State) : s.release.last = s.last := rfl
@[simp] theorem State.release_log (s : State) : s.release.log = s.log := rfl
@[simp] theorem State.release_logCount (s : State) : s.release.logCount = s.logCount := rfl
@[simp] theorem State.release_map (s : State) : s.release.map = s.map := rfl
@[simp] theorem State.release_mapCount (s : State) : s.release.mapCount = s.mapCount := rfl
@[simp] theorem State.release_params (s : State) : s.release.params = s.params := rfl
@[simp] theorem State.release_hostQueue (s : State) : s.release.hostQueue = s.hostQueue := rfl

/-! ### emptyResults -/

@[simp] theorem State.emptyResults_arg0 (s : State) : s.emptyResults.arg0 = s.arg0 := rfl
@[simp] theorem State.emptyResults_arg1 (s : State) : s.emptyResults.arg1 = s.arg1 := rfl
@[simp] theorem State.emptyResults_res (s : State) : s.emptyResults.res = s.res := rfl
@[simp] theorem State.emptyResults_err (s : State) : s.emptyResults.err = s.err := rfl
@[simp] theorem State.emptyResults_stage (s : State) : s.emptyResults.stage = s.stage := rfl
@[simp] theorem State.emptyResults_failed (s : State) : s.emptyResults.failed = s.failed := rfl
@[simp] theorem State.emptyResults_src (s : State) : s.emptyResults.src = s.src := rfl
@[simp] theorem State.emptyResults_srcLen (s : State) : s.emptyResults.srcLen = s.srcLen := rfl
@[simp] theorem State.emptyResults_srcValid (s : State) : s.emptyResults.srcValid = s.srcValid := rfl
@[simp] theorem State.emptyResults_cursors (s : State) : s.emptyResults.cursors = s.cursors := rfl
@[simp] theorem State.emptyResults_header (s : State) : s.emptyResults.header = s.header := rfl
@[simp] theorem State.emptyResults_offt (s : State) : s.emptyResults.offt = s.offt := rfl
@[simp] theorem State.emptyResults_dirIdx (s : State) : s.emptyResults.dirIdx = s.dirIdx := rfl
@[simp] theorem State.emptyResults_outSize (s : State) : s.emptyResults.outSize = s.outSize := rfl
@[simp] theorem State.emptyResults_hasRaw (s : State) : s.emptyResults.hasRaw = s.hasRaw := rfl
@[simp] theorem State.emptyResults_compEq (s : State) : s.emptyResults.compEq = s.compEq := rfl
@[simp] theorem State.emptyResults_sels (s : State) : s.emptyResults.sels = s.sels := rfl
@[simp] theorem State.emptyResults_extents (s : State) : s.emptyResults.extents = s.extents := rfl
@[simp] theorem State.emptyResults_gw (s : State) : s.emptyResults.gw = s.gw := rfl
@[simp] theorem State.emptyResults_gh (s : State) : s.emptyResults.gh = s.gh := rfl
@[simp] theorem State.emptyResults_fh (s : State) : s.emptyResults.fh = s.fh := rfl
@[simp] theorem State.emptyResults_sizes (s : State) : s.emptyResults.sizes = s.sizes := rfl
@[simp] theorem State.emptyResults_pctCount (s : State) : s.emptyResults.pctCount = s.pctCount := rfl
@[simp] theorem State.emptyResults_pct (s : State) : s.emptyResults.pct = s.pct := rfl
@[simp] theorem State.emptyResults_last (s : State) : s.emptyResults.last = Store.clearBelow s.last s.cells := rfl
@[simp] theorem State.emptyResults_log (s : State) : s.emptyResults.log = s.log := rfl
@[simp] theorem State.emptyResults_logCount (s : State) : s.emptyResults.logCount = 0 := rfl
@[simp] theorem State.emptyResults_map (s : State) : s.emptyResults.map = s.map := rfl
@[simp] theorem State.emptyResults_mapCount (s : State) : s.emptyResults.mapCount = 0 := rfl
@[simp] theorem State.emptyResults_params (s : State) : s.emptyResults.params = s.params := rfl
@[simp] theorem State.emptyResults_hostQueue (s : State) : s.emptyResults.hostQueue = s.hostQueue := rfl

/-! ### dirClear -/

@[simp] theorem State.dirClear_arg0 (s : State) : s.dirClear.arg0 = s.arg0 := rfl
@[simp] theorem State.dirClear_arg1 (s : State) : s.dirClear.arg1 = s.arg1 := rfl
@[simp] theorem State.dirClear_res (s : State) : s.dirClear.res = s.res := rfl
@[simp] theorem State.dirClear_err (s : State) : s.dirClear.err = s.err := rfl
@[simp] theorem State.dirClear_stage (s : State) : s.dirClear.stage = s.stage := rfl
@[simp] theorem State.dirClear_failed (s : State) : s.dirClear.failed = s.failed := rfl
@[simp] theorem State.dirClear_src (s : State) : s.dirClear.src = s.src := rfl
@[simp] theorem State.dirClear_srcLen (s : State) : s.dirClear.srcLen = s.srcLen := rfl
@[simp] theorem State.dirClear_srcValid (s : State) : s.dirClear.srcValid = s.srcValid := rfl
@[simp] theorem State.dirClear_cursors (s : State) : s.dirClear.cursors = ((((s.cursors.set 1 Cursor.empty).set 2 Cursor.empty).set 3 Cursor.empty).set 4 Cursor.empty).set 5 Cursor.empty := rfl
@[simp] theorem State.dirClear_header (s : State) : s.dirClear.header = s.header := rfl
@[simp] theorem State.dirClear_offt (s : State) : s.dirClear.offt = s.offt := rfl
@[simp] theorem State.dirClear_dirIdx (s : State) : s.dirClear.dirIdx = s.dirIdx := rfl
@[simp] theorem State.dirClear_outSize (s : State) : s.dirClear.outSize = 0 := rfl
@[simp] theorem State.dirClear_hasRaw (s : State) : s.dirClear.hasRaw = false := rfl
@[simp] theorem State.dirClear_compEq (s : State) : s.dirClear.compEq = false := rfl
@[simp] theorem State.dirClear_sels (s : State) : s.dirClear.sels = ⟨0, 0, 0, 0, 0, 0, 0⟩ := rfl
@[simp] theorem State.dirClear_extents (s : State) : s.dirClear.extents = ⟨0, 0, 0, 0⟩ := rfl
@[simp] theorem State.dirClear_gw (s : State) : s.dirClear.gw = 0 := rfl
@[simp] theorem State.dirClear_gh (s : State) : s.dirClear.gh = 0 := rfl
@[simp] theorem State.dirClear_fh (s : State) : s.dirClear.fh = [] := rfl
@[simp] theorem State.dirClear_sizes (s : State) : s.dirClear.sizes = ⟨0, 0, 0, 0⟩ := rfl
@[simp] theorem State.dirClear_pctCount (s : State) : s.dirClear.pctCount = 0 := rfl
@[simp] theorem State.dirClear_pct (s : State) : s.dirClear.pct = [] := rfl
@[simp] theorem State.dirClear_last (s : State) : s.dirClear.last = s.last := rfl
@[simp] theorem State.dirClear_log (s : State) : s.dirClear.log = s.log := rfl
@[simp] theorem State.dirClear_logCount (s : State) : s.dirClear.logCount = 0 := rfl
@[simp] theorem State.dirClear_map (s : State) : s.dirClear.map = s.map := rfl
@[simp] theorem State.dirClear_mapCount (s : State) : s.dirClear.mapCount = 0 := rfl
@[simp] theorem State.dirClear_params (s : State) : s.dirClear.params = s.params := rfl
@[simp] theorem State.dirClear_hostQueue (s : State) : s.dirClear.hostQueue = s.hostQueue := rfl

/-! ### startDirection -/

@[simp] theorem State.startDirection_arg0 (s : State) (i : Nat) : (s.startDirection i).arg0 = s.arg0 := rfl
@[simp] theorem State.startDirection_arg1 (s : State) (i : Nat) : (s.startDirection i).arg1 = s.arg1 := rfl
@[simp] theorem State.startDirection_res (s : State) (i : Nat) : (s.startDirection i).res = s.res := rfl
@[simp] theorem State.startDirection_err (s : State) (i : Nat) : (s.startDirection i).err = s.err := rfl
@[simp] theorem State.startDirection_stage (s : State) (i : Nat) : (s.startDirection i).stage = .opened := rfl
@[simp] theorem State.startDirection_failed (s : State) (i : Nat) : (s.startDirection i).failed = false := rfl
@[simp] theorem State.startDirection_src (s : State) (i : Nat) : (s.startDirection i).src = s.src := rfl
@[simp] theorem State.startDirection_srcLen (s : State) (i : Nat) : (s.startDirection i).srcLen = s.srcLen := rfl
@[simp] theorem State.startDirection_srcValid (s : State) (i : Nat) : (s.startDirection i).srcValid = s.srcValid := rfl
@[simp] theorem State.startDirection_cursors (s : State) (i : Nat) : (s.startDirection i).cursors = ((((s.cursors.set 1 Cursor.empty).set 2 Cursor.empty).set 3 Cursor.empty).set 4 Cursor.empty).set 5 Cursor.empty := rfl
@[simp] theorem State.startDirection_header (s : State) (i : Nat) : (s.startDirection i).header = s.header := rfl
@[simp] theorem State.startDirection_offt (s : State) (i : Nat) : (s.startDirection i).offt = s.offt := rfl
@[simp] theorem State.startDirection_dirIdx (s : State) (i : Nat) : (s.startDirection i).dirIdx = BitVec.ofNat 8 i := rfl
@[simp] theorem State.startDirection_outSize (s : State) (i : Nat) : (s.startDirection i).outSize = 0 := rfl
@[simp] theorem State.startDirection_hasRaw (s : State) (i : Nat) : (s.startDirection i).hasRaw = false := rfl
@[simp] theorem State.startDirection_compEq (s : State) (i : Nat) : (s.startDirection i).compEq = false := rfl
@[simp] theorem State.startDirection_sels (s : State) (i : Nat) : (s.startDirection i).sels = ⟨0, 0, 0, 0, 0, 0, 0⟩ := rfl
@[simp] theorem State.startDirection_extents (s : State) (i : Nat) : (s.startDirection i).extents = ⟨0, 0, 0, 0⟩ := rfl
@[simp] theorem State.startDirection_gw (s : State) (i : Nat) : (s.startDirection i).gw = 0 := rfl
@[simp] theorem State.startDirection_gh (s : State) (i : Nat) : (s.startDirection i).gh = 0 := rfl
@[simp] theorem State.startDirection_fh (s : State) (i : Nat) : (s.startDirection i).fh = [] := rfl
@[simp] theorem State.startDirection_sizes (s : State) (i : Nat) : (s.startDirection i).sizes = ⟨0, 0, 0, 0⟩ := rfl
@[simp] theorem State.startDirection_pctCount (s : State) (i : Nat) : (s.startDirection i).pctCount = 0 := rfl
@[simp] theorem State.startDirection_pct (s : State) (i : Nat) : (s.startDirection i).pct = [] := rfl
@[simp] theorem State.startDirection_last (s : State) (i : Nat) : (s.startDirection i).last = s.last := rfl
@[simp] theorem State.startDirection_log (s : State) (i : Nat) : (s.startDirection i).log = s.log := rfl
@[simp] theorem State.startDirection_logCount (s : State) (i : Nat) : (s.startDirection i).logCount = 0 := rfl
@[simp] theorem State.startDirection_map (s : State) (i : Nat) : (s.startDirection i).map = s.map := rfl
@[simp] theorem State.startDirection_mapCount (s : State) (i : Nat) : (s.startDirection i).mapCount = 0 := rfl
@[simp] theorem State.startDirection_params (s : State) (i : Nat) : (s.startDirection i).params = s.params := rfl
@[simp] theorem State.startDirection_hostQueue (s : State) (i : Nat) : (s.startDirection i).hostQueue = s.hostQueue := rfl

/-! ### takeError -/

@[simp] theorem takeError_arg0 (g : CmdGroup) (e : ErrorKind) (s : State) : (takeError g e s).arg0 = s.arg0 := rfl
@[simp] theorem takeError_arg1 (g : CmdGroup) (e : ErrorKind) (s : State) : (takeError g e s).arg1 = s.arg1 := rfl
@[simp] theorem takeError_res (g : CmdGroup) (e : ErrorKind) (s : State) : (takeError g e s).res = s.res := rfl
@[simp] theorem takeError_err (g : CmdGroup) (e : ErrorKind) (s : State) : (takeError g e s).err = some e := rfl
@[simp] theorem takeError_stage (g : CmdGroup) (e : ErrorKind) (s : State) : (takeError g e s).stage = s.stage := rfl
@[simp] theorem takeError_failed (g : CmdGroup) (e : ErrorKind) (s : State) : (takeError g e s).failed = (s.failed || (decide (g = .stage) && isDataError e)) := rfl
@[simp] theorem takeError_src (g : CmdGroup) (e : ErrorKind) (s : State) : (takeError g e s).src = s.src := rfl
@[simp] theorem takeError_srcLen (g : CmdGroup) (e : ErrorKind) (s : State) : (takeError g e s).srcLen = s.srcLen := rfl
@[simp] theorem takeError_srcValid (g : CmdGroup) (e : ErrorKind) (s : State) : (takeError g e s).srcValid = s.srcValid := rfl
@[simp] theorem takeError_cursors (g : CmdGroup) (e : ErrorKind) (s : State) : (takeError g e s).cursors = s.cursors := rfl
@[simp] theorem takeError_header (g : CmdGroup) (e : ErrorKind) (s : State) : (takeError g e s).header = s.header := rfl
@[simp] theorem takeError_offt (g : CmdGroup) (e : ErrorKind) (s : State) : (takeError g e s).offt = s.offt := rfl
@[simp] theorem takeError_dirIdx (g : CmdGroup) (e : ErrorKind) (s : State) : (takeError g e s).dirIdx = s.dirIdx := rfl
@[simp] theorem takeError_outSize (g : CmdGroup) (e : ErrorKind) (s : State) : (takeError g e s).outSize = s.outSize := rfl
@[simp] theorem takeError_hasRaw (g : CmdGroup) (e : ErrorKind) (s : State) : (takeError g e s).hasRaw = s.hasRaw := rfl
@[simp] theorem takeError_compEq (g : CmdGroup) (e : ErrorKind) (s : State) : (takeError g e s).compEq = s.compEq := rfl
@[simp] theorem takeError_sels (g : CmdGroup) (e : ErrorKind) (s : State) : (takeError g e s).sels = s.sels := rfl
@[simp] theorem takeError_extents (g : CmdGroup) (e : ErrorKind) (s : State) : (takeError g e s).extents = s.extents := rfl
@[simp] theorem takeError_gw (g : CmdGroup) (e : ErrorKind) (s : State) : (takeError g e s).gw = s.gw := rfl
@[simp] theorem takeError_gh (g : CmdGroup) (e : ErrorKind) (s : State) : (takeError g e s).gh = s.gh := rfl
@[simp] theorem takeError_fh (g : CmdGroup) (e : ErrorKind) (s : State) : (takeError g e s).fh = s.fh := rfl
@[simp] theorem takeError_sizes (g : CmdGroup) (e : ErrorKind) (s : State) : (takeError g e s).sizes = s.sizes := rfl
@[simp] theorem takeError_pctCount (g : CmdGroup) (e : ErrorKind) (s : State) : (takeError g e s).pctCount = s.pctCount := rfl
@[simp] theorem takeError_pct (g : CmdGroup) (e : ErrorKind) (s : State) : (takeError g e s).pct = s.pct := rfl
@[simp] theorem takeError_last (g : CmdGroup) (e : ErrorKind) (s : State) : (takeError g e s).last = s.last := rfl
@[simp] theorem takeError_log (g : CmdGroup) (e : ErrorKind) (s : State) : (takeError g e s).log = s.log := rfl
@[simp] theorem takeError_logCount (g : CmdGroup) (e : ErrorKind) (s : State) : (takeError g e s).logCount = s.logCount := rfl
@[simp] theorem takeError_map (g : CmdGroup) (e : ErrorKind) (s : State) : (takeError g e s).map = s.map := rfl
@[simp] theorem takeError_mapCount (g : CmdGroup) (e : ErrorKind) (s : State) : (takeError g e s).mapCount = s.mapCount := rfl
@[simp] theorem takeError_params (g : CmdGroup) (e : ErrorKind) (s : State) : (takeError g e s).params = s.params := rfl
@[simp] theorem takeError_hostQueue (g : CmdGroup) (e : ErrorKind) (s : State) : (takeError g e s).hostQueue = s.hostQueue := rfl

/-! ### succeed -/

@[simp] theorem succeed_arg0 (s : State) : (succeed s).arg0 = s.arg0 := rfl
@[simp] theorem succeed_arg1 (s : State) : (succeed s).arg1 = s.arg1 := rfl
@[simp] theorem succeed_res (s : State) : (succeed s).res = s.res := rfl
@[simp] theorem succeed_err (s : State) : (succeed s).err = none := rfl
@[simp] theorem succeed_stage (s : State) : (succeed s).stage = s.stage := rfl
@[simp] theorem succeed_failed (s : State) : (succeed s).failed = s.failed := rfl
@[simp] theorem succeed_src (s : State) : (succeed s).src = s.src := rfl
@[simp] theorem succeed_srcLen (s : State) : (succeed s).srcLen = s.srcLen := rfl
@[simp] theorem succeed_srcValid (s : State) : (succeed s).srcValid = s.srcValid := rfl
@[simp] theorem succeed_cursors (s : State) : (succeed s).cursors = s.cursors := rfl
@[simp] theorem succeed_header (s : State) : (succeed s).header = s.header := rfl
@[simp] theorem succeed_offt (s : State) : (succeed s).offt = s.offt := rfl
@[simp] theorem succeed_dirIdx (s : State) : (succeed s).dirIdx = s.dirIdx := rfl
@[simp] theorem succeed_outSize (s : State) : (succeed s).outSize = s.outSize := rfl
@[simp] theorem succeed_hasRaw (s : State) : (succeed s).hasRaw = s.hasRaw := rfl
@[simp] theorem succeed_compEq (s : State) : (succeed s).compEq = s.compEq := rfl
@[simp] theorem succeed_sels (s : State) : (succeed s).sels = s.sels := rfl
@[simp] theorem succeed_extents (s : State) : (succeed s).extents = s.extents := rfl
@[simp] theorem succeed_gw (s : State) : (succeed s).gw = s.gw := rfl
@[simp] theorem succeed_gh (s : State) : (succeed s).gh = s.gh := rfl
@[simp] theorem succeed_fh (s : State) : (succeed s).fh = s.fh := rfl
@[simp] theorem succeed_sizes (s : State) : (succeed s).sizes = s.sizes := rfl
@[simp] theorem succeed_pctCount (s : State) : (succeed s).pctCount = s.pctCount := rfl
@[simp] theorem succeed_pct (s : State) : (succeed s).pct = s.pct := rfl
@[simp] theorem succeed_last (s : State) : (succeed s).last = s.last := rfl
@[simp] theorem succeed_log (s : State) : (succeed s).log = s.log := rfl
@[simp] theorem succeed_logCount (s : State) : (succeed s).logCount = s.logCount := rfl
@[simp] theorem succeed_map (s : State) : (succeed s).map = s.map := rfl
@[simp] theorem succeed_mapCount (s : State) : (succeed s).mapCount = s.mapCount := rfl
@[simp] theorem succeed_params (s : State) : (succeed s).params = s.params := rfl
@[simp] theorem succeed_hostQueue (s : State) : (succeed s).hostQueue = s.hostQueue := rfl

end Sys2Proof.Machine
end

