-- ==== Sys2Proof/Laws/Store.lean ====
section
/-! SUPPORT. Sparse stores: read after write, and every operation keeps the canonical form. -/
namespace Sys2Proof.Machine

variable {α : Type}

@[simp] theorem Store.get_nil (d : α) (a : Nat) : Store.get d ([] : Store α) a = d := rfl

theorem Store.get_cons (d : α) (k : Nat) (v : α) (m : Store α) (a : Nat) :
    Store.get d ((k, v) :: m) a = if k = a then v else Store.get d m a := rfl

theorem Store.get_filter (d : α) (q : Nat → Bool) (m : Store α) (a : Nat) :
    Store.get d (m.filter (fun p => q p.1)) a = if q a then Store.get d m a else d := by
  induction m with
  | nil => simp
  | cons p m ih =>
    obtain ⟨k, v⟩ := p
    by_cases hk : k = a
    · subst hk
      by_cases hq : q k <;> simp [hq, Store.get_cons, ih]
    · by_cases hq : q k <;> simp [hq, Store.get_cons, hk, ih]

theorem Store.get_erase (d : α) (m : Store α) (a b : Nat) :
    Store.get d (Store.erase m a) b = if b = a then d else Store.get d m b := by
  rw [Store.erase, Store.get_filter d (fun k => k != a)]
  by_cases h : b = a <;> simp [h]

theorem Store.get_clearBelow (d : α) (m : Store α) (n b : Nat) :
    Store.get d (Store.clearBelow m n) b = if b < n then d else Store.get d m b := by
  rw [Store.clearBelow, Store.get_filter d (fun k => decide (n ≤ k))]
  by_cases h : b < n
  · simp [h]
  · simp [h, Nat.le_of_not_lt h]

theorem Store.get_insert_self (d : α) (m : Store α) (a : Nat) (v : α) (h : ∀ p ∈ m, p.1 ≠ a) :
    Store.get d (Store.insert a v m) a = v := by
  induction m with
  | nil => simp [Store.insert, Store.get_cons]
  | cons p m ih =>
    obtain ⟨k, w⟩ := p
    have hk : k ≠ a := h (k, w) (by simp)
    by_cases hlt : a < k
    · simp [Store.insert, hlt, Store.get_cons]
    · simpa [Store.insert, hlt, Store.get_cons, hk] using ih fun q hq => h q (by simp [hq])

theorem Store.get_insert_other (d : α) (m : Store α) (a b : Nat) (v : α) (h : b ≠ a) :
    Store.get d (Store.insert a v m) b = Store.get d m b := by
  induction m with
  | nil => simp [Store.insert, Store.get_cons, h.symm]
  | cons p m ih =>
    obtain ⟨k, w⟩ := p
    by_cases hlt : a < k
    · simp [Store.insert, hlt, Store.get_cons, h.symm]
    · simp [Store.insert, hlt, Store.get_cons, ih]

variable [DecidableEq α] {d : α}

/-- Read after write (no premise on the store). -/
theorem Store.get_set (m : Store α) (a b : Nat) (v : α) :
    Store.get d (Store.set d m a v) b = if b = a then v else Store.get d m b := by
  unfold Store.set
  split
  · rename_i hv
    rw [Store.get_erase, hv]
  · by_cases h : b = a
    · rw [h, if_pos rfl, Store.get_insert_self]
      intro p hp
      simpa using (List.mem_filter.1 hp).2
    · rw [if_neg h, Store.get_insert_other _ _ _ _ _ h, Store.get_erase, if_neg h]

@[simp] theorem Store.get_set_self (m : Store α) (a : Nat) (v : α) : Store.get d (Store.set d m a v) a = v := by
  simp [Store.get_set]

@[simp] theorem Store.get_set_other (m : Store α) {a b : Nat} (v : α) (h : b ≠ a) :
    Store.get d (Store.set d m a v) b = Store.get d m b := by
  simp [Store.get_set, h]

@[simp] theorem Store.wf_nil : Store.wf d ([] : Store α) := ⟨List.Pairwise.nil, by simp⟩

theorem Store.wf_filter (q : Nat × α → Bool) {m : Store α} (h : Store.wf d m) : Store.wf d (m.filter q) := by
  refine ⟨?_, fun p hp => h.2 p (List.mem_filter.1 hp).1⟩
  exact List.Pairwise.sublist (List.Sublist.map _ List.filter_sublist) h.1

theorem Store.wf_erase {m : Store α} (a : Nat) (h : Store.wf d m) : Store.wf d (Store.erase m a) :=
  Store.wf_filter _ h

theorem Store.wf_clearBelow {m : Store α} (n : Nat) (h : Store.wf d m) : Store.wf d (Store.clearBelow m n) :=
  Store.wf_filter _ h

theorem Store.mem_insert {m : Store α} {a : Nat} {v : α} {p : Nat × α} :
    p ∈ Store.insert a v m ↔ p = (a, v) ∨ p ∈ m := by
  induction m with
  | nil => simp [Store.insert]
  | cons q m ih =>
    obtain ⟨k, w⟩ := q
    by_cases hlt : a < k
    · simp [Store.insert, hlt]
    · simp only [Store.insert, hlt, if_false, List.mem_cons, ih]
      tauto

theorem Store.wf_insert {m : Store α} {a : Nat} {v : α} (hv : v ≠ d) (ha : ∀ p ∈ m, p.1 ≠ a) (h : Store.wf d m) :
    Store.wf d (Store.insert a v m) := by
  refine ⟨?_, fun p hp => ?_⟩
  · induction m with
    | nil => simp [Store.insert]
    | cons q m ih =>
      obtain ⟨k, w⟩ := q
      have hk : k ≠ a := ha (k, w) (by simp)
      have hs := h.1
      simp only [List.map_cons, List.pairwise_cons] at hs
      by_cases hlt : a < k
      · simp only [Store.insert, hlt, if_true, List.map_cons, List.pairwise_cons]
        refine ⟨fun b hb => ?_, hs⟩
        rcases List.mem_cons.1 hb with rfl | hb
        · exact hlt
        · exact Nat.lt_trans hlt (hs.1 b hb)
      · simp only [Store.insert, hlt, if_false, List.map_cons, List.pairwise_cons]
        refine ⟨fun b hb => ?_, ih (fun p hp => ha p (by simp [hp])) ⟨hs.2, fun p hp => h.2 p (by simp [hp])⟩⟩
        obtain ⟨p, hp, rfl⟩ := List.mem_map.1 hb
        rcases Store.mem_insert.1 hp with rfl | hp
        · show k < a
          omega
        · exact hs.1 _ (List.mem_map_of_mem hp)
  · rcases Store.mem_insert.1 hp with rfl | hp
    · exact hv
    · exact h.2 p hp

/-- A write keeps the canonical form. -/
theorem Store.wf_set {m : Store α} (a : Nat) (v : α) (h : Store.wf d m) : Store.wf d (Store.set d m a v) := by
  unfold Store.set
  split
  · exact Store.wf_erase a h
  · rename_i hv
    refine Store.wf_insert hv (fun p hp => ?_) (Store.wf_erase a h)
    simpa using (List.mem_filter.1 hp).2

theorem Store.mem_set {m : Store α} {a : Nat} {v : α} {p : Nat × α} (h : p ∈ Store.set d m a v) : p = (a, v) ∨ p ∈ m := by
  unfold Store.set at h
  split at h
  · exact .inr (List.mem_filter.1 h).1
  · rcases Store.mem_insert.1 h with h | h
    · exact .inl h
    · exact .inr (List.mem_filter.1 h).1

/-! ### The source memory -/

theorem Memory.byte_setByte (m : Memory) (a b : Nat) (v : Byte) :
    Memory.byte (Memory.setByte m a v) b = if b = a then v else Memory.byte m b := Store.get_set m a b v

@[simp] theorem Memory.wf_nil (cap : Nat) : Memory.wf cap [] := ⟨Store.wf_nil, by simp⟩

/-- A host write to SRC keeps the canonical form. -/
theorem Memory.wf_setByte {cap : Nat} {m : Memory} {a : Nat} (v : Byte) (ha : a < cap) (h : Memory.wf cap m) :
    Memory.wf cap (Memory.setByte m a v) := by
  refine ⟨Store.wf_set a v h.1, fun p hp => ?_⟩
  rcases Store.mem_set hp with rfl | hp
  · exact ha
  · exact h.2 p hp

theorem fieldAt_lt (m : Memory) (b w : Nat) : fieldAt m b w < 2 ^ w := by
  induction w with
  | zero => simp [fieldAt]
  | succ w ih =>
    have hb : (srcBit m (b + w)).toNat ≤ 1 := Bool.toNat_le _
    have := Nat.mul_le_mul_right (2 ^ w) hb
    simp only [fieldAt, Nat.pow_succ]
    omega

theorem memRead_lt (m : Memory) (a n : Nat) : memRead m a n < 2 ^ (8 * n) := by
  induction n with
  | zero => simp [memRead]
  | succ n ih =>
    have hb : (Memory.byte m (a + n)).toNat ≤ 255 := by have := (Memory.byte m (a + n)).isLt; omega
    have := Nat.mul_le_mul_right (2 ^ (8 * n)) hb
    simp only [memRead, Nat.mul_add, Nat.pow_add]
    omega

end Sys2Proof.Machine
end

