-- ==== Sys2Proof/Laws/Cmd.lean ====
section
/-! SUPPORT. Running commands: what sequencing, writes, raises and loops do, and one rule of reasoning per construct. A
proof about a command cites these and never unfolds the sequencing. -/
namespace Sys2Proof.Machine

variable {α β : Type}

/-! ### Equations -/

@[simp] theorem run_pure (a : α) (s : State) : (pure a : Cmd α).run s = .ok a s := rfl

theorem run_bind (x : Cmd α) (f : α → Cmd β) (s : State) :
    (x >>= f).run s = match x.run s with
      | .ok a t => (f a).run t
      | .error e t => .error e t := by
  show EStateM.bind x f s = _
  unfold EStateM.bind EStateM.run
  cases x s <;> rfl

theorem run_bind_ok {x : Cmd α} {f : α → Cmd β} {s t : State} {a : α} (h : x.run s = .ok a t) :
    (x >>= f).run s = (f a).run t := by
  rw [run_bind, h]

theorem run_bind_error {x : Cmd α} {f : α → Cmd β} {s t : State} {e : ErrorKind} (h : x.run s = .error e t) :
    (x >>= f).run s = .error e t := by
  rw [run_bind, h]

@[simp] theorem run_write (f : State → State) (s : State) : (write f).run s = .ok () (f s) := rfl

@[simp] theorem run_write_bind (f : State → State) (g : Unit → Cmd β) (s : State) : (write f >>= g).run s = (g ()).run (f s) := rfl

@[simp] theorem run_withState (f : State → Cmd α) (s : State) : (withState f).run s = (f s).run s := rfl

@[simp] theorem run_withState_bind (f : State → Cmd α) (g : α → Cmd β) (s : State) :
    (withState f >>= g).run s = (f s >>= g).run s := rfl

theorem run_raiseWhen (p : State → Bool) (e : ErrorKind) (s : State) :
    (raiseWhen p e).run s = if p s then .error e s else .ok () s := rfl

theorem run_raiseWhen_bind (p : State → Bool) (e : ErrorKind) (g : Unit → Cmd β) (s : State) :
    (raiseWhen p e >>= g).run s = if p s then .error e s else (g ()).run s := by
  rw [run_bind, run_raiseWhen]
  by_cases h : p s = true <;> simp [h]

/-- A check that passes. -/
theorem run_raiseWhen_pass {p : State → Bool} {e : ErrorKind} {g : Unit → Cmd β} {s : State} (h : p s = false) :
    (raiseWhen p e >>= g).run s = (g ()).run s := by
  rw [run_raiseWhen_bind, h]; rfl

/-- A check that raises. -/
theorem run_raiseWhen_raise {p : State → Bool} {e : ErrorKind} {g : Unit → Cmd β} {s : State} (h : p s = true) :
    (raiseWhen p e >>= g).run s = .error e s := by
  rw [run_raiseWhen_bind, h]; rfl

/-! ### Reasoning about both ways a command can end -/

/-- From a state with `P` the command either ends in a state with `Q` or raises in a state with `E`. -/
def Meets (P : State → Prop) (x : Cmd α) (Q : α → State → Prop) (E : ErrorKind → State → Prop) : Prop :=
  ∀ s, P s → match x.run s with
    | .ok a t => Q a t
    | .error e t => E e t

/-- The command keeps `P`, however it ends. -/
abbrev Keeps (P : State → Prop) (x : Cmd α) : Prop := Meets P x (fun _ => P) (fun _ => P)

variable {P : State → Prop} {Q : α → State → Prop} {E : ErrorKind → State → Prop}

theorem Meets.ok {x : Cmd α} {s t : State} {a : α} (h : Meets P x Q E) (hp : P s) (hx : x.run s = .ok a t) : Q a t := by
  have := h s hp; rwa [hx] at this

theorem Meets.err {x : Cmd α} {s t : State} {e : ErrorKind} (h : Meets P x Q E) (hp : P s) (hx : x.run s = .error e t) : E e t := by
  have := h s hp; rwa [hx] at this

theorem Meets.weaken {x : Cmd α} {P' : State → Prop} {Q' : α → State → Prop} {E' : ErrorKind → State → Prop}
    (h : Meets P x Q E) (hP : ∀ s, P' s → P s) (hQ : ∀ a s, Q a s → Q' a s) (hE : ∀ e s, E e s → E' e s) :
    Meets P' x Q' E' := by
  intro s hs
  have := h s (hP s hs)
  revert this
  cases x.run s with
  | ok a t => exact hQ a t
  | error e t => exact hE e t

theorem Meets.pure {a : α} (h : ∀ s, P s → Q a s) : Meets P (pure a : Cmd α) Q E := fun s hs => h s hs

theorem Meets.bind {x : Cmd α} {f : α → Cmd β} {R : β → State → Prop} (hx : Meets P x Q E)
    (hf : ∀ a, Meets (Q a) (f a) R E) : Meets P (x >>= f) R E := by
  intro s hs
  rw [run_bind]
  have := hx s hs
  revert this
  cases x.run s with
  | ok a t => exact fun h => hf a t h
  | error e t => exact id

theorem Meets.write {f : State → State} {Q : Unit → State → Prop} (h : ∀ s, P s → Q () (f s)) :
    Meets P (write f) Q E := fun s hs => h s hs

theorem Meets.raiseWhen {p : State → Bool} {e : ErrorKind} {Q : Unit → State → Prop}
    (hq : ∀ s, P s → p s = false → Q () s) (he : ∀ s, P s → p s = true → E e s) : Meets P (raiseWhen p e) Q E := by
  intro s hs
  rw [run_raiseWhen]
  by_cases h : p s = true
  · simpa [h] using he s hs h
  · simpa [h] using hq s hs (by simpa using h)

theorem Meets.withState {f : State → Cmd α} (h : ∀ s, P s → Meets (fun t => t = s) (f s) Q E) :
    Meets P (withState f) Q E := fun s hs => h s hs s rfl

theorem Keeps.withState {f : State → Cmd α} (h : ∀ s, P s → Keeps P (f s)) : Keeps P (withState f) :=
  fun s hs => h s hs s hs

/-- A counted loop: an invariant indexed by how often the body has run. -/
theorem Meets.forBelow {I : Nat → State → Prop} {body : Nat → Cmd Unit} (n : Nat)
    (h : ∀ i, i < n → Meets (I i) (body i) (fun _ => I (i + 1)) E) :
    Meets (I 0) (forBelow n body) (fun _ => I n) E := by
  induction n with
  | zero => exact fun s hs => hs
  | succ n ih => exact Meets.bind (ih fun i hi => h i (Nat.lt_succ_of_lt hi)) fun _ => h n (Nat.lt_succ_self n)

theorem Keeps.forBelow {body : Nat → Cmd Unit} (n : Nat) (h : ∀ i, i < n → Keeps P (body i)) : Keeps P (forBelow n body) :=
  Meets.forBelow (I := fun _ => P) n h

theorem Keeps.forEach {γ : Type} {body : γ → Cmd Unit} (xs : List γ) (h : ∀ x ∈ xs, Keeps P (body x)) :
    Keeps P (forEach xs body) := by
  induction xs with
  | nil => exact fun s hs => hs
  | cons x xs ih => exact Meets.bind (h x (by simp)) fun _ => ih fun y hy => h y (by simp [hy])

theorem Keeps.bind {x : Cmd α} {f : α → Cmd β} (hx : Keeps P x) (hf : ∀ a, Keeps P (f a)) : Keeps P (x >>= f) :=
  Meets.bind hx hf

theorem Keeps.pure {a : α} : Keeps P (Pure.pure a : Cmd α) := fun _ hs => hs

theorem Keeps.raiseWhen {p : State → Bool} {e : ErrorKind} : Keeps P (raiseWhen p e) :=
  Meets.raiseWhen (fun _ hs _ => hs) (fun _ hs _ => hs)

theorem Keeps.write {f : State → State} (h : ∀ s, P s → P (f s)) : Keeps P (write f) := Meets.write h

/-! ### Ending a command -/

theorem complete_ok {g : CmdGroup} {x : Cmd Unit} {s t : State} (h : x.run s = .ok () t) :
    complete g x s = .next { t with err := none } := by
  rw [complete, h]; rfl

theorem complete_error {g : CmdGroup} {x : Cmd Unit} {s t : State} {e : ErrorKind} (h : x.run s = .error e t) :
    complete g x s = .next (takeError g e t) := by
  rw [complete, h]

/-- A command always completes (R255). -/
theorem complete_next (g : CmdGroup) (x : Cmd Unit) (s : State) : ∃ t, complete g x s = .next t := by
  rw [complete]
  split <;> exact ⟨_, rfl⟩

/-- Everything a completed command can have done: it ended, or it raised an error that was taken. -/
theorem complete_cases {g : CmdGroup} {x : Cmd Unit} {s t : State} (h : complete g x s = .next t) :
    (∃ u, x.run s = .ok () u ∧ t = succeed u) ∨ (∃ e u, x.run s = .error e u ∧ t = takeError g e u) := by
  revert h
  rw [complete]
  cases hx : x.run s with
  | ok a u =>
    intro h
    simp only [Host.Outcome.next.injEq] at h
    exact .inl ⟨u, rfl, h.symm⟩
  | error e u =>
    intro h
    simp only [Host.Outcome.next.injEq] at h
    exact .inr ⟨e, u, rfl, h.symm⟩

/-- A command's result from what its body meets. -/
theorem Meets.complete {g : CmdGroup} {x : Cmd Unit} {Q : Unit → State → Prop} {s t : State} (h : Meets P x Q E) (hp : P s)
    (ht : complete g x s = .next t) : (∃ u, Q () u ∧ t = succeed u) ∨ (∃ e u, E e u ∧ t = takeError g e u) := by
  rcases complete_cases ht with ⟨u, hu, rfl⟩ | ⟨e, u, hu, rfl⟩
  · exact .inl ⟨u, h.ok hp hu, rfl⟩
  · exact .inr ⟨e, u, h.err hp hu, rfl⟩

end Sys2Proof.Machine
end

