-- ==== Sys2Proof/Laws/Cursor.lean ====
section
/-! SUPPORT. The cursor primitives: what each one does to the cursor file, and what a read gives (20_memory.md R70 to R74). -/
namespace Sys2Proof.Machine

/-! ### The cursor file -/

theorem State.cursor_setCursor (s : State) (c d : CursorIx) (k : Cursor) :
    (s.setCursor c k).cursor d = if d = c then k else s.cursor d := by
  simp only [State.cursor, State.setCursor_cursors]
  by_cases h : d = c
  · subst h; simp
  · have : c.val ≠ d.val := fun hv => h (Fin.ext hv.symm)
    simp [h, this]

@[simp] theorem State.cursor_setCursor_self (s : State) (c : CursorIx) (k : Cursor) : (s.setCursor c k).cursor c = k := by
  simp [State.cursor_setCursor]

@[simp] theorem State.cursor_setCursor_other (s : State) {c d : CursorIx} (k : Cursor) (h : d ≠ c) :
    (s.setCursor c k).cursor d = s.cursor d := by
  simp [State.cursor_setCursor, h]

theorem State.setCursor_setCursor (s : State) (c : CursorIx) (k l : Cursor) :
    (s.setCursor c k).setCursor c l = s.setCursor c l := by
  simp [State.setCursor]

theorem State.setCursor_same (s : State) (c : CursorIx) : s.setCursor c (s.cursor c) = s := by
  have : s.cursors.set c s.cursors[c] = s.cursors := by
    apply Vector.ext
    intro i hi
    simp only [Vector.getElem_set]
    split
    · subst_vars; rfl
    · rfl
  simp only [State.setCursor, State.cursor]
  rw [this]

/-- Two cursor files with equal cursors are equal. -/
theorem cursors_ext {x y : Vector Cursor 8} (h : ∀ c : CursorIx, x[c] = y[c]) : x = y := by
  apply Vector.ext
  intro i hi
  exact h ⟨i, hi⟩

/-! ### A cursor as a value -/

theorem Cursor.blocks_eq_false {k : Cursor} {n : Nat} : k.blocks n = false ↔ k.err = false ∧ k.pos.toNat + n ≤ k.len.toNat := by
  simp [Cursor.blocks]

theorem Cursor.blocks_eq_true {k : Cursor} {n : Nat} : k.blocks n = true ↔ k.err = true ∨ k.len.toNat < k.pos.toNat + n := by
  simp [Cursor.blocks]

theorem Cursor.advance_ok {k : Cursor} {n : Nat} (h : k.blocks n = false) :
    k.advance n = { k with pos := BitVec.ofNat 64 (k.pos.toNat + n) } := by
  simp [Cursor.advance, h]

theorem Cursor.advance_blocked {k : Cursor} {n : Nat} (h : k.blocks n = true) : k.advance n = { k with err := true } := by
  simp [Cursor.advance, h]

@[simp] theorem Cursor.advance_base (k : Cursor) (n : Nat) : (k.advance n).base = k.base := by
  unfold Cursor.advance; split <;> rfl

@[simp] theorem Cursor.advance_len (k : Cursor) (n : Nat) : (k.advance n).len = k.len := by
  unfold Cursor.advance; split <;> rfl

@[simp] theorem Cursor.advance_err (k : Cursor) (n : Nat) : (k.advance n).err = k.blocks n := by
  cases h : k.blocks n
  · rw [Cursor.advance_ok h]; exact (Cursor.blocks_eq_false.1 h).1
  · rw [Cursor.advance_blocked h]

/-- A position that was moved is where it says: no wrap. -/
theorem Cursor.advance_pos {k : Cursor} {n : Nat} (h : k.blocks n = false) : (k.advance n).pos.toNat = k.pos.toNat + n := by
  have := (Cursor.blocks_eq_false.1 h).2
  have := k.len.isLt
  rw [Cursor.advance_ok h, BitVec.toNat_ofNat, Nat.mod_eq_of_lt (by omega)]

theorem Cursor.value_ok {m : Memory} {k : Cursor} {w : Nat} (h : k.blocks w = false) :
    k.value m w = fieldAt m (k.base.toNat + k.pos.toNat) w := by
  simp [Cursor.value, h]

theorem Cursor.value_blocked {m : Memory} {k : Cursor} {w : Nat} (h : k.blocks w = true) : k.value m w = 0 := by
  simp [Cursor.value, h]

theorem Cursor.value_lt (m : Memory) (k : Cursor) (w : Nat) : k.value m w < 2 ^ w := by
  unfold Cursor.value
  split
  · exact Nat.two_pow_pos w
  · exact fieldAt_lt _ _ _

/-! ### The primitives as commands -/

@[simp] theorem run_curRead (c : CursorIx) (w : Nat) (s : State) :
    (curRead c w).run s = .ok ((s.cursor c).value s.src w) (s.setCursor c ((s.cursor c).advance w)) := rfl

theorem run_failIfErr (c : CursorIx) (s : State) :
    (failIfErr c).run s = if (s.cursor c).err then .error .truncatedStream s else .ok () s := rfl

/-- A read that is not refused. -/
theorem readOrFail_ok {c : CursorIx} {w : Nat} {s : State} (h : (s.cursor c).blocks w = false) :
    (readOrFail c w).run s = .ok (fieldAt s.src ((s.cursor c).base.toNat + (s.cursor c).pos.toNat) w)
      (s.setCursor c ((s.cursor c).advance w)) := by
  simp only [readOrFail, run_bind, run_curRead, run_failIfErr, State.cursor_setCursor_self, Cursor.advance_err, h,
    Cursor.value_ok h]
  rfl

/-- A read that is refused. -/
theorem readOrFail_error {c : CursorIx} {w : Nat} {s : State} (h : (s.cursor c).blocks w = true) :
    (readOrFail c w).run s = .error .truncatedStream (s.setCursor c { s.cursor c with err := true }) := by
  simp only [readOrFail, run_bind, run_curRead, run_failIfErr, State.cursor_setCursor_self,
    Cursor.advance_blocked h]
  rfl

/-- Everything a read can do. -/
theorem readOrFail_cases (c : CursorIx) (w : Nat) (s : State) :
    ((s.cursor c).blocks w = false ∧
      (readOrFail c w).run s = .ok (fieldAt s.src ((s.cursor c).base.toNat + (s.cursor c).pos.toNat) w)
        (s.setCursor c ((s.cursor c).advance w))) ∨
    ((s.cursor c).blocks w = true ∧
      (readOrFail c w).run s = .error .truncatedStream (s.setCursor c { s.cursor c with err := true })) := by
  cases h : (s.cursor c).blocks w
  · exact .inl ⟨rfl, readOrFail_ok h⟩
  · exact .inr ⟨rfl, readOrFail_error h⟩

/-- A read keeps whatever every move of its cursor keeps. -/
theorem Keeps.readOrFail {P : State → Prop} {c : CursorIx} {w : Nat}
    (h : ∀ s, P s → P (s.setCursor c ((s.cursor c).advance w))) : Keeps P (readOrFail c w) :=
  Meets.bind (Q := fun _ => P) (fun s hs => h s hs) fun _ => Meets.bind (Q := fun _ => P) Keeps.raiseWhen fun _ => Keeps.pure

end Sys2Proof.Machine
end

