-- ==== Sys2Proof/Laws/BitReader.lean ====
section
/-! SUPPORT. The bit-reader commands: everything each one can do, as one equation on its whole outcome (40_bitreader.md). -/
namespace Sys2Proof.Machine

/-- A value put into RES, then the check of the cursor. -/
theorem run_setRes_failIfErr (c : CursorIx) (v : DWord) (s : State) :
    (setRes v >>= fun _ => failIfErr c).run s =
      if (s.cursor c).err then .error .truncatedStream { s with res := v } else .ok () { s with res := v } := rfl

/-- A command that reads `w` bits, puts a number made of them into RES and checks the cursor. -/
theorem complete_read (c : CursorIx) (w : Nat) (f : Nat → DWord) (s : State) :
    complete .bitReader (curRead c w >>= fun v => setRes (f v) >>= fun _ => failIfErr c) s = .next { s with
      res := f ((s.cursor c).value s.src w)
      err := if (s.cursor c).blocks w then some .truncatedStream else none
      cursors := s.cursors.set c ((s.cursor c).advance w) } := by
  have h : (curRead c w >>= fun v => setRes (f v) >>= fun _ => failIfErr c).run s =
      if (s.cursor c).blocks w then
        .error .truncatedStream { s.setCursor c ((s.cursor c).advance w) with res := f ((s.cursor c).value s.src w) }
      else .ok () { s.setCursor c ((s.cursor c).advance w) with res := f ((s.cursor c).value s.src w) } := by
    rw [run_bind_ok (run_curRead c w s), run_setRes_failIfErr]
    simp
  cases hb : (s.cursor c).blocks w
  · rw [hb] at h
    rw [complete_ok (by simpa using h)]; rfl
  · rw [hb] at h
    rw [complete_error (by simpa using h)]; simp [takeError]

/-- An unsigned read (R112, R113, R114). -/
theorem complete_readUnsigned (c : CursorIx) (w : Nat) (s : State) :
    complete .bitReader (readUnsigned c w) s = .next { s with
      res := BitVec.ofNat 64 ((s.cursor c).value s.src w)
      err := if (s.cursor c).blocks w then some .truncatedStream else none
      cursors := s.cursors.set c ((s.cursor c).advance w) } :=
  complete_read c w (BitVec.ofNat 64) s

/-- A signed read (R115). -/
theorem complete_readSigned (c : CursorIx) (w : Nat) (s : State) :
    complete .bitReader (readSigned c w) s = .next { s with
      res := BitVec.ofInt 64 (signedValue ((s.cursor c).value s.src w) w)
      err := if (s.cursor c).blocks w then some .truncatedStream else none
      cursors := s.cursors.set c ((s.cursor c).advance w) } :=
  complete_read c w (fun v => BitVec.ofInt 64 (signedValue v w)) s

/-- A move of `n` bits that is checked after it: ALIGN and SKIP (R116, R117). -/
theorem complete_move (c : CursorIx) (n : State → Nat) (s : State) :
    complete .bitReader ((write fun s => s.setCursor c ((s.cursor c).advance (n s))) >>= fun _ => failIfErr c) s = .next { s with
      err := if (s.cursor c).blocks (n s) then some .truncatedStream else none
      cursors := s.cursors.set c ((s.cursor c).advance (n s)) } := by
  have h : ((s.setCursor c ((s.cursor c).advance (n s))).cursor c).err = (s.cursor c).blocks (n s) := by simp
  cases hb : (s.cursor c).blocks (n s)
  · rw [hb] at h
    have : ((write fun s => s.setCursor c ((s.cursor c).advance (n s))) >>= fun _ => failIfErr c).run s =
        .ok () (s.setCursor c ((s.cursor c).advance (n s))) := by
      simp [run_failIfErr, hb]
    rw [complete_ok this]; rfl
  · rw [hb] at h
    have : ((write fun s => s.setCursor c ((s.cursor c).advance (n s))) >>= fun _ => failIfErr c).run s =
        .error .truncatedStream (s.setCursor c ((s.cursor c).advance (n s))) := by
      simp [run_failIfErr, hb]
    rw [complete_error this]; simp [takeError, State.setCursor]

/-- ALIGN (R116). -/
theorem exec_align (c : CursorIx) (s : State) : exec (.align c) s = .next { s with
    err := if (s.cursor c).blocks (s.cursor c).toAlign then some .truncatedStream else none
    cursors := s.cursors.set c ((s.cursor c).advance (s.cursor c).toAlign) } :=
  complete_move c (fun s => (s.cursor c).toAlign) s

/-- SKIP (R117). -/
theorem exec_skip (c : CursorIx) (s : State) : exec (.skip c) s = .next { s with
    err := if (s.cursor c).blocks s.arg0.toNat then some .truncatedStream else none
    cursors := s.cursors.set c ((s.cursor c).advance s.arg0.toNat) } :=
  complete_move c (fun s => s.arg0.toNat) s

/-- SIZE (R118). -/
theorem exec_size (c : CursorIx) (s : State) : exec (.size c) s = .next { s with res := (s.cursor c).len, err := none } := rfl

/-- SLICE (R119). -/
theorem exec_slice (d c : CursorIx) (s : State) : exec (.slice d c) s = .next { s with
    err := if (s.cursor c).err then some .truncatedStream else none
    cursors := s.cursors.set d (s.cursor c).rest } := by
  have h : ((s.setCursor d (s.cursor c).rest).cursor d).err = (s.cursor c).err := by simp [Cursor.rest]
  show complete .bitReader (sliceCmd d c) s = _
  cases hb : (s.cursor c).err
  · have : (sliceCmd d c).run s = .ok () (s.setCursor d (s.cursor c).rest) := by
      simp [sliceCmd, curSlice, run_failIfErr, Cursor.rest, hb]
    rw [complete_ok this]; rfl
  · have : (sliceCmd d c).run s = .error .truncatedStream (s.setCursor d (s.cursor c).rest) := by
      simp [sliceCmd, curSlice, run_failIfErr, Cursor.rest, hb]
    rw [complete_error this]; simp [takeError, State.setCursor]

/-- CUROPEN (R111). -/
theorem exec_curopen (c : CursorIx) (s : State) : exec (.curopen c) s =
    if s.srcValid then .next { s with
      err := if s.srcLen.toNat < s.arg0.toNat + s.arg1.toNat then some .truncatedStream else none
      cursors := s.cursors.set c (Cursor.overBytes s.srcLen.toNat s.arg0.toNat s.arg1.toNat) }
    else .next { s with err := some .sourceUnavailable } := by
  show complete .bitReader (curopenCmd c) s = _
  have h : (curopenCmd c).run s = if s.srcValid then
      (curOpen c s.arg0.toNat s.arg1.toNat >>= fun _ => failIfErr c).run s else .error .sourceUnavailable s := by
    rw [curopenCmd, run_raiseWhen_bind]
    cases s.srcValid <;> rfl
  by_cases hv : s.srcValid = true
  · rw [if_pos hv] at h
    by_cases hl : s.srcLen.toNat < s.arg0.toNat + s.arg1.toNat
    · have : (curopenCmd c).run s = .error .truncatedStream
          (s.setCursor c (Cursor.overBytes s.srcLen.toNat s.arg0.toNat s.arg1.toNat)) := by
        rw [h]; simp [curOpen, run_failIfErr, Cursor.overBytes, hl, Cursor.failed]
      rw [complete_error this, if_pos hv]; simp [takeError, State.setCursor, hl]
    · have : (curopenCmd c).run s = .ok () (s.setCursor c (Cursor.overBytes s.srcLen.toNat s.arg0.toNat s.arg1.toNat)) := by
        rw [h]; simp [curOpen, run_failIfErr, Cursor.overBytes, hl]
      rw [complete_ok this, if_pos hv]; simp [State.setCursor, hl]
  · rw [if_neg hv] at h
    rw [complete_error h, if_neg hv]; simp [takeError]

/-- The command is a read: not one of the commands that leave RES. -/
def isRead (i : Instr) : Bool :=
  match i with
  | .curopen _ | .align _ | .skip _ | .size _ | .slice _ _ => false
  | .openFile | .dirhdr | .readPrefix | .pct | .setup | .recon | .decodeDir => false
  | _ => true

/-- The forms of a bit-reader command: an unsigned read, a signed read, ALIGN, SKIP, SIZE, SLICE or CUROPEN. -/
theorem bitReader_forms {i : Instr} {c : CursorIx} (h : bitReaderCursor i = some c) :
    (∃ w, exec i = complete .bitReader (readUnsigned c w) ∧ makesCursor i c = false ∧ isRead i = true) ∨
    (∃ w, exec i = complete .bitReader (readSigned c w) ∧ makesCursor i c = false ∧ isRead i = true) ∨
    i = .align c ∨ i = .skip c ∨ i = .size c ∨ (∃ e, i = .slice c e) ∨ i = .curopen c := by
  cases i with
  | curopen d => exact .inr (.inr (.inr (.inr (.inr (.inr (by cases h; rfl))))))
  | readbit d => cases h; exact .inl ⟨1, rfl, rfl, rfl⟩
  | readbool d => cases h; exact .inl ⟨1, rfl, rfl, rfl⟩
  | readuW0 d => cases h; exact .inl ⟨selWidth 0, rfl, rfl, rfl⟩
  | readuW1 d => cases h; exact .inl ⟨selWidth 1, rfl, rfl, rfl⟩
  | readuW2 d => cases h; exact .inl ⟨selWidth 2, rfl, rfl, rfl⟩
  | readuW4 d => cases h; exact .inl ⟨selWidth 3, rfl, rfl, rfl⟩
  | readuW6 d => cases h; exact .inl ⟨selWidth 4, rfl, rfl, rfl⟩
  | readuW8 d => cases h; exact .inl ⟨selWidth 5, rfl, rfl, rfl⟩
  | readuW10 d => cases h; exact .inl ⟨selWidth 6, rfl, rfl, rfl⟩
  | readuW12 d => cases h; exact .inl ⟨selWidth 7, rfl, rfl, rfl⟩
  | readuW14 d => cases h; exact .inl ⟨selWidth 8, rfl, rfl, rfl⟩
  | readuW16 d => cases h; exact .inl ⟨selWidth 9, rfl, rfl, rfl⟩
  | readuW20 d => cases h; exact .inl ⟨selWidth 10, rfl, rfl, rfl⟩
  | readuW24 d => cases h; exact .inl ⟨selWidth 11, rfl, rfl, rfl⟩
  | readuW26 d => cases h; exact .inl ⟨selWidth 12, rfl, rfl, rfl⟩
  | readuW28 d => cases h; exact .inl ⟨selWidth 13, rfl, rfl, rfl⟩
  | readuW30 d => cases h; exact .inl ⟨selWidth 14, rfl, rfl, rfl⟩
  | readuW32 d => cases h; exact .inl ⟨selWidth 15, rfl, rfl, rfl⟩
  | readsW0 d => cases h; exact .inr (.inl ⟨selWidth 0, rfl, rfl, rfl⟩)
  | readsW1 d => cases h; exact .inr (.inl ⟨selWidth 1, rfl, rfl, rfl⟩)
  | readsW2 d => cases h; exact .inr (.inl ⟨selWidth 2, rfl, rfl, rfl⟩)
  | readsW4 d => cases h; exact .inr (.inl ⟨selWidth 3, rfl, rfl, rfl⟩)
  | readsW6 d => cases h; exact .inr (.inl ⟨selWidth 4, rfl, rfl, rfl⟩)
  | readsW8 d => cases h; exact .inr (.inl ⟨selWidth 5, rfl, rfl, rfl⟩)
  | readsW10 d => cases h; exact .inr (.inl ⟨selWidth 6, rfl, rfl, rfl⟩)
  | readsW12 d => cases h; exact .inr (.inl ⟨selWidth 7, rfl, rfl, rfl⟩)
  | readsW14 d => cases h; exact .inr (.inl ⟨selWidth 8, rfl, rfl, rfl⟩)
  | readsW16 d => cases h; exact .inr (.inl ⟨selWidth 9, rfl, rfl, rfl⟩)
  | readsW20 d => cases h; exact .inr (.inl ⟨selWidth 10, rfl, rfl, rfl⟩)
  | readsW24 d => cases h; exact .inr (.inl ⟨selWidth 11, rfl, rfl, rfl⟩)
  | readsW26 d => cases h; exact .inr (.inl ⟨selWidth 12, rfl, rfl, rfl⟩)
  | readsW28 d => cases h; exact .inr (.inl ⟨selWidth 13, rfl, rfl, rfl⟩)
  | readsW30 d => cases h; exact .inr (.inl ⟨selWidth 14, rfl, rfl, rfl⟩)
  | readsW32 d => cases h; exact .inr (.inl ⟨selWidth 15, rfl, rfl, rfl⟩)
  | align d => exact .inr (.inr (.inl (by cases h; rfl)))
  | skip d => exact .inr (.inr (.inr (.inl (by cases h; rfl))))
  | size d => exact .inr (.inr (.inr (.inr (.inl (by cases h; rfl)))))
  | slice d e => exact .inr (.inr (.inr (.inr (.inr (.inl (by cases h; exact ⟨e, rfl⟩))))))
  | openFile => cases h
  | dirhdr => cases h
  | readPrefix => cases h
  | pct => cases h
  | setup => cases h
  | recon => cases h
  | decodeDir => cases h

/-- Everything a bit-reader command can do. -/
theorem exec_bitReader_cases {i : Instr} {s t : State} {c : CursorIx} (h : bitReaderCursor i = some c) (he : exec i s = .next t) :
    (∃ w r, t = { s with
        res := r
        err := if (s.cursor c).blocks w then some .truncatedStream else none
        cursors := s.cursors.set c ((s.cursor c).advance w) } ∧
      makesCursor i c = false ∧ (isRead i = true ∨ ((i = .align c ∨ i = .skip c) ∧ r = s.res))) ∨
    (i = .size c ∧ t = { s with res := (s.cursor c).len, err := none }) ∨
    (∃ e, i = .slice c e ∧ t = { s with
      err := if (s.cursor e).err then some .truncatedStream else none
      cursors := s.cursors.set c (s.cursor e).rest }) ∨
    (i = .curopen c ∧ s.srcValid = true ∧ t = { s with
      err := if s.srcLen.toNat < s.arg0.toNat + s.arg1.toNat then some .truncatedStream else none
      cursors := s.cursors.set c (Cursor.overBytes s.srcLen.toNat s.arg0.toNat s.arg1.toNat) }) ∨
    (i = .curopen c ∧ s.srcValid = false ∧ t = { s with err := some .sourceUnavailable }) := by
  rcases bitReader_forms h with ⟨w, hw, hm, hr⟩ | ⟨w, hw, hm, hr⟩ | rfl | rfl | rfl | ⟨e, rfl⟩ | rfl
  · rw [hw, complete_readUnsigned] at he
    exact .inl ⟨w, _, (Host.Outcome.next.inj he).symm, hm, .inl hr⟩
  · rw [hw, complete_readSigned] at he
    exact .inl ⟨w, _, (Host.Outcome.next.inj he).symm, hm, .inl hr⟩
  · rw [exec_align] at he
    exact .inl ⟨_, s.res, (Host.Outcome.next.inj he).symm, rfl, .inr ⟨.inl rfl, rfl⟩⟩
  · rw [exec_skip] at he
    exact .inl ⟨_, s.res, (Host.Outcome.next.inj he).symm, rfl, .inr ⟨.inr rfl, rfl⟩⟩
  · rw [exec_size] at he
    exact .inr (.inl ⟨rfl, (Host.Outcome.next.inj he).symm⟩)
  · rw [exec_slice] at he
    exact .inr (.inr (.inl ⟨_, rfl, (Host.Outcome.next.inj he).symm⟩))
  · rw [exec_curopen] at he
    split at he
    · rename_i hv
      exact .inr (.inr (.inr (.inl ⟨rfl, hv, (Host.Outcome.next.inj he).symm⟩)))
    · rename_i hv
      exact .inr (.inr (.inr (.inr ⟨rfl, by simpa using hv, (Host.Outcome.next.inj he).symm⟩)))

end Sys2Proof.Machine
end

