-- ==== Sys2Proof/Laws/PerInstr.lean ====
section
/-! SUPPORT. Facts about every command as syntax, one lemma per constructor. -/
namespace Sys2Proof.Laws

/-- The word of a command is a legal command word (R83). -/
def EncodedWordLegal.Statement (i : Instr) : Prop := wordLegal (encode i) = true

theorem EncodedWordLegal.curopen (c : CursorIx) : EncodedWordLegal.Statement (.curopen c) := by
  revert c; unfold EncodedWordLegal.Statement; decide

theorem EncodedWordLegal.readbit (c : CursorIx) : EncodedWordLegal.Statement (.readbit c) := by
  revert c; unfold EncodedWordLegal.Statement; decide

theorem EncodedWordLegal.readbool (c : CursorIx) : EncodedWordLegal.Statement (.readbool c) := by
  revert c; unfold EncodedWordLegal.Statement; decide

theorem EncodedWordLegal.readuW0 (c : CursorIx) : EncodedWordLegal.Statement (.readuW0 c) := by
  revert c; unfold EncodedWordLegal.Statement; decide

theorem EncodedWordLegal.readuW1 (c : CursorIx) : EncodedWordLegal.Statement (.readuW1 c) := by
  revert c; unfold EncodedWordLegal.Statement; decide

theorem EncodedWordLegal.readuW2 (c : CursorIx) : EncodedWordLegal.Statement (.readuW2 c) := by
  revert c; unfold EncodedWordLegal.Statement; decide

theorem EncodedWordLegal.readuW4 (c : CursorIx) : EncodedWordLegal.Statement (.readuW4 c) := by
  revert c; unfold EncodedWordLegal.Statement; decide

theorem EncodedWordLegal.readuW6 (c : CursorIx) : EncodedWordLegal.Statement (.readuW6 c) := by
  revert c; unfold EncodedWordLegal.Statement; decide

theorem EncodedWordLegal.readuW8 (c : CursorIx) : EncodedWordLegal.Statement (.readuW8 c) := by
  revert c; unfold EncodedWordLegal.Statement; decide

theorem EncodedWordLegal.readuW10 (c : CursorIx) : EncodedWordLegal.Statement (.readuW10 c) := by
  revert c; unfold EncodedWordLegal.Statement; decide

theorem EncodedWordLegal.readuW12 (c : CursorIx) : EncodedWordLegal.Statement (.readuW12 c) := by
  revert c; unfold EncodedWordLegal.Statement; decide

theorem EncodedWordLegal.readuW14 (c : CursorIx) : EncodedWordLegal.Statement (.readuW14 c) := by
  revert c; unfold EncodedWordLegal.Statement; decide

theorem EncodedWordLegal.readuW16 (c : CursorIx) : EncodedWordLegal.Statement (.readuW16 c) := by
  revert c; unfold EncodedWordLegal.Statement; decide

theorem EncodedWordLegal.readuW20 (c : CursorIx) : EncodedWordLegal.Statement (.readuW20 c) := by
  revert c; unfold EncodedWordLegal.Statement; decide

theorem EncodedWordLegal.readuW24 (c : CursorIx) : EncodedWordLegal.Statement (.readuW24 c) := by
  revert c; unfold EncodedWordLegal.Statement; decide

theorem EncodedWordLegal.readuW26 (c : CursorIx) : EncodedWordLegal.Statement (.readuW26 c) := by
  revert c; unfold EncodedWordLegal.Statement; decide

theorem EncodedWordLegal.readuW28 (c : CursorIx) : EncodedWordLegal.Statement (.readuW28 c) := by
  revert c; unfold EncodedWordLegal.Statement; decide

theorem EncodedWordLegal.readuW30 (c : CursorIx) : EncodedWordLegal.Statement (.readuW30 c) := by
  revert c; unfold EncodedWordLegal.Statement; decide

theorem EncodedWordLegal.readuW32 (c : CursorIx) : EncodedWordLegal.Statement (.readuW32 c) := by
  revert c; unfold EncodedWordLegal.Statement; decide

theorem EncodedWordLegal.readsW0 (c : CursorIx) : EncodedWordLegal.Statement (.readsW0 c) := by
  revert c; unfold EncodedWordLegal.Statement; decide

theorem EncodedWordLegal.readsW1 (c : CursorIx) : EncodedWordLegal.Statement (.readsW1 c) := by
  revert c; unfold EncodedWordLegal.Statement; decide

theorem EncodedWordLegal.readsW2 (c : CursorIx) : EncodedWordLegal.Statement (.readsW2 c) := by
  revert c; unfold EncodedWordLegal.Statement; decide

theorem EncodedWordLegal.readsW4 (c : CursorIx) : EncodedWordLegal.Statement (.readsW4 c) := by
  revert c; unfold EncodedWordLegal.Statement; decide

theorem EncodedWordLegal.readsW6 (c : CursorIx) : EncodedWordLegal.Statement (.readsW6 c) := by
  revert c; unfold EncodedWordLegal.Statement; decide

theorem EncodedWordLegal.readsW8 (c : CursorIx) : EncodedWordLegal.Statement (.readsW8 c) := by
  revert c; unfold EncodedWordLegal.Statement; decide

theorem EncodedWordLegal.readsW10 (c : CursorIx) : EncodedWordLegal.Statement (.readsW10 c) := by
  revert c; unfold EncodedWordLegal.Statement; decide

theorem EncodedWordLegal.readsW12 (c : CursorIx) : EncodedWordLegal.Statement (.readsW12 c) := by
  revert c; unfold EncodedWordLegal.Statement; decide

theorem EncodedWordLegal.readsW14 (c : CursorIx) : EncodedWordLegal.Statement (.readsW14 c) := by
  revert c; unfold EncodedWordLegal.Statement; decide

theorem EncodedWordLegal.readsW16 (c : CursorIx) : EncodedWordLegal.Statement (.readsW16 c) := by
  revert c; unfold EncodedWordLegal.Statement; decide

theorem EncodedWordLegal.readsW20 (c : CursorIx) : EncodedWordLegal.Statement (.readsW20 c) := by
  revert c; unfold EncodedWordLegal.Statement; decide

theorem EncodedWordLegal.readsW24 (c : CursorIx) : EncodedWordLegal.Statement (.readsW24 c) := by
  revert c; unfold EncodedWordLegal.Statement; decide

theorem EncodedWordLegal.readsW26 (c : CursorIx) : EncodedWordLegal.Statement (.readsW26 c) := by
  revert c; unfold EncodedWordLegal.Statement; decide

theorem EncodedWordLegal.readsW28 (c : CursorIx) : EncodedWordLegal.Statement (.readsW28 c) := by
  revert c; unfold EncodedWordLegal.Statement; decide

theorem EncodedWordLegal.readsW30 (c : CursorIx) : EncodedWordLegal.Statement (.readsW30 c) := by
  revert c; unfold EncodedWordLegal.Statement; decide

theorem EncodedWordLegal.readsW32 (c : CursorIx) : EncodedWordLegal.Statement (.readsW32 c) := by
  revert c; unfold EncodedWordLegal.Statement; decide

theorem EncodedWordLegal.align (c : CursorIx) : EncodedWordLegal.Statement (.align c) := by
  revert c; unfold EncodedWordLegal.Statement; decide

theorem EncodedWordLegal.skip (c : CursorIx) : EncodedWordLegal.Statement (.skip c) := by
  revert c; unfold EncodedWordLegal.Statement; decide

theorem EncodedWordLegal.size (c : CursorIx) : EncodedWordLegal.Statement (.size c) := by
  revert c; unfold EncodedWordLegal.Statement; decide

theorem EncodedWordLegal.slice (d c : CursorIx) : EncodedWordLegal.Statement (.slice d c) := by
  revert d c; unfold EncodedWordLegal.Statement; decide

theorem EncodedWordLegal.openFile : EncodedWordLegal.Statement .openFile := by
  unfold EncodedWordLegal.Statement; decide

theorem EncodedWordLegal.dirhdr : EncodedWordLegal.Statement .dirhdr := by
  unfold EncodedWordLegal.Statement; decide

theorem EncodedWordLegal.readPrefix : EncodedWordLegal.Statement .readPrefix := by
  unfold EncodedWordLegal.Statement; decide

theorem EncodedWordLegal.pct : EncodedWordLegal.Statement .pct := by
  unfold EncodedWordLegal.Statement; decide

theorem EncodedWordLegal.setup : EncodedWordLegal.Statement .setup := by
  unfold EncodedWordLegal.Statement; decide

theorem EncodedWordLegal.recon : EncodedWordLegal.Statement .recon := by
  unfold EncodedWordLegal.Statement; decide

theorem EncodedWordLegal.decodeDir : EncodedWordLegal.Statement .decodeDir := by
  unfold EncodedWordLegal.Statement; decide

end Sys2Proof.Laws
end

