-- ==== Sys2Proof/Laws/Stages.lean ====
section
/-! SUPPORT. Everything a stage command can write: a property of states is kept by a command when every single write the
command's pseudocode can make keeps it. Frames and invariants of the stage commands follow from these. -/
namespace Sys2Proof.Machine

variable {P : State → Prop}

/-! ### Shared pieces -/

theorem Keeps.failIfErr {c : CursorIx} : Keeps P (failIfErr c) := Keeps.raiseWhen

theorem Keeps.curAlign {c : CursorIx} (h : ∀ s n, P s → P (s.setCursor c ((s.cursor c).advance n))) : Keeps P (curAlign c) :=
  Keeps.write fun s hs => h s _ hs

theorem Keeps.curSkip {c : CursorIx} {n : Nat} (h : ∀ s n, P s → P (s.setCursor c ((s.cursor c).advance n))) :
    Keeps P (curSkip c n) :=
  Keeps.write fun s hs => h s _ hs

theorem Keeps.readInto {w : Nat} {f : Nat → State → State}
    (hm : ∀ s n, P s → P (s.setCursor cMain ((s.cursor cMain).advance n))) (hf : ∀ v s, P s → P (f v s)) :
    Keeps P (readInto w f) :=
  Keeps.bind (Keeps.readOrFail fun s hs => hm s _ hs) fun v => Keeps.write fun s hs => hf v s hs

/-- A command that keeps a property, and whose ending keeps it, keeps it whole. -/
theorem Keeps.complete {g : CmdGroup} {x : Cmd Unit} {s t : State} (h : Keeps P x) (he : ∀ u e, P u → P (takeError g e u))
    (ho : ∀ u, P u → P (succeed u)) (hs : P s) (ht : complete g x s = .next t) : P t := by
  rcases Meets.complete h hs ht with ⟨u, hu, rfl⟩ | ⟨e, u, hu, rfl⟩
  · exact ho u hu
  · exact he u e hu

/-! ### OPEN -/

theorem Keeps.need {a n : Nat} : Keeps P (need a n) := Keeps.raiseWhen

theorem Keeps.putHeader {f : Memory → FileHeader → FileHeader} (h : ∀ s k, P s → P { s with header := k }) :
    Keeps P (putHeader f) :=
  Keeps.write fun s hs => h s _ hs

theorem Keeps.openCmd (hr : ∀ s, P s → P s.release) (hh : ∀ s k, P s → P { s with header := k })
    (ho : ∀ s i v, P s → P (s.setOffset i v)) (hs : ∀ s, P s → P { s with stage := .opened }) : Keeps P openCmd := by
  refine Keeps.bind (Keeps.write hr) fun _ => ?_
  refine Keeps.bind Keeps.raiseWhen fun _ => ?_
  refine Keeps.bind Keeps.need fun _ => ?_
  refine Keeps.bind (Keeps.putHeader hh) fun _ => ?_
  refine Keeps.bind Keeps.raiseWhen fun _ => ?_
  refine Keeps.bind Keeps.need fun _ => ?_
  refine Keeps.bind (Keeps.putHeader hh) fun _ => ?_
  refine Keeps.bind Keeps.need fun _ => ?_
  refine Keeps.bind (Keeps.putHeader hh) fun _ => ?_
  refine Keeps.bind Keeps.need fun _ => ?_
  refine Keeps.bind (Keeps.putHeader hh) fun _ => ?_
  refine Keeps.bind Keeps.need fun _ => ?_
  refine Keeps.bind (Keeps.putHeader hh) fun _ => ?_
  refine Keeps.bind Keeps.raiseWhen fun _ => ?_
  refine Keeps.bind Keeps.need fun _ => ?_
  refine Keeps.bind (Keeps.putHeader hh) fun _ => ?_
  refine Keeps.bind Keeps.need fun _ => ?_
  refine Keeps.bind (Keeps.putHeader hh) fun _ => ?_
  refine Keeps.bind (Keeps.withState fun s _ => Keeps.forBelow _ fun i _ => ?_) fun _ => ?_
  · exact Keeps.bind Keeps.need fun _ => Keeps.write fun t ht => ho t _ _ ht
  refine Keeps.bind (Keeps.write fun s h => ho s _ _ h) fun _ => ?_
  refine Keeps.bind (Keeps.withState fun s _ => Keeps.forBelow _ fun i _ => Keeps.raiseWhen) fun _ => ?_
  exact Keeps.write hs

/-! ### DIRHDR -/

/-- Every write DIRHDR can make keeps the property. -/
structure DirhdrKeeps (P : State → Prop) : Prop where
  start : ∀ s i, P s → P (s.startDirection i)
  made : ∀ s a n, P s → P (s.setCursor cMain (Cursor.overBytes s.srcLen.toNat a n))
  moved : ∀ s n, P s → P (s.setCursor cMain ((s.cursor cMain).advance n))
  outSize : ∀ s v, P s → P { s with outSize := v }
  hasRaw : ∀ s v, P s → P { s with hasRaw := v }
  compEq : ∀ s v, P s → P { s with compEq := v }
  sels : ∀ s v, P s → P { s with sels := v }
  frame : ∀ s f h, P s → P (s.setFrame f h)
  extents : ∀ s v, P s → P { s with extents := v }
  stage : ∀ s, P s → P { s with stage := .hdr }

theorem Keeps.readFrameField (h : DirhdrKeeps P) {f w : Nat} {g : Nat → FrameHeader → FrameHeader} :
    Keeps P (readFrameField f w g) :=
  Keeps.readInto h.moved fun _ s hs => h.frame s _ _ hs

theorem Keeps.readFrameHeader (h : DirhdrKeeps P) {f : Nat} : Keeps P (readFrameHeader f) := by
  refine Keeps.withState fun s _ => ?_
  refine Keeps.bind (Keeps.readFrameField h) fun _ => ?_
  refine Keeps.bind (Keeps.readFrameField h) fun _ => ?_
  refine Keeps.bind (Keeps.readFrameField h) fun _ => ?_
  refine Keeps.bind (Keeps.readFrameField h) fun _ => ?_
  refine Keeps.bind (Keeps.readFrameField h) fun _ => ?_
  refine Keeps.bind (Keeps.readFrameField h) fun _ => ?_
  refine Keeps.bind (Keeps.readFrameField h) fun _ => ?_
  refine Keeps.bind (Keeps.readFrameField h) fun _ => ?_
  exact Keeps.write fun t ht => h.frame t _ _ ht

theorem Keeps.skipOptional (h : ∀ s n, P s → P (s.setCursor cMain ((s.cursor cMain).advance n))) {f : Nat} :
    Keeps P (skipOptional f) := by
  refine Keeps.withState fun s _ => ?_
  split
  · exact Keeps.pure
  · exact Keeps.bind (Keeps.curAlign h) fun _ => Keeps.bind (Keeps.curSkip h) fun _ => Keeps.failIfErr

theorem Keeps.readDirectionHeader (h : DirhdrKeeps P) : Keeps P readDirectionHeader := by
  refine Keeps.bind (Keeps.readInto h.moved fun _ s hs => h.outSize s _ hs) fun _ => ?_
  refine Keeps.bind (Keeps.readInto h.moved fun _ s hs => h.hasRaw s _ hs) fun _ => ?_
  refine Keeps.bind (Keeps.readInto h.moved fun _ s hs => h.compEq s _ hs) fun _ => ?_
  refine Keeps.bind (Keeps.readInto h.moved fun _ s hs => h.sels s _ hs) fun _ => ?_
  refine Keeps.bind (Keeps.readInto h.moved fun _ s hs => h.sels s _ hs) fun _ => ?_
  refine Keeps.bind (Keeps.readInto h.moved fun _ s hs => h.sels s _ hs) fun _ => ?_
  refine Keeps.bind (Keeps.readInto h.moved fun _ s hs => h.sels s _ hs) fun _ => ?_
  refine Keeps.bind (Keeps.readInto h.moved fun _ s hs => h.sels s _ hs) fun _ => ?_
  refine Keeps.bind (Keeps.readInto h.moved fun _ s hs => h.sels s _ hs) fun _ => ?_
  exact Keeps.readInto h.moved fun _ s hs => h.sels s _ hs

theorem Keeps.dirhdrCmd (h : DirhdrKeeps P) : Keeps P dirhdrCmd := by
  refine Keeps.bind Keeps.raiseWhen fun _ => ?_
  refine Keeps.bind Keeps.raiseWhen fun _ => ?_
  refine Keeps.bind (Keeps.write fun s hs => h.start s _ hs) fun _ => ?_
  refine Keeps.bind (Keeps.withState fun s _ => Keeps.withState fun s _ => Keeps.write fun t ht => h.made t _ _ ht) fun _ => ?_
  refine Keeps.bind (Keeps.readDirectionHeader h) fun _ => ?_
  refine Keeps.bind (Keeps.withState fun s _ => Keeps.forBelow _ fun i _ => Keeps.readFrameHeader h) fun _ => ?_
  refine Keeps.bind (Keeps.withState fun s _ => Keeps.forBelow _ fun i _ => Keeps.skipOptional h.moved) fun _ => ?_
  refine Keeps.bind (Keeps.write fun s hs => h.extents s _ hs) fun _ => ?_
  exact Keeps.write h.stage

/-! ### PREFIX and PCT -/

theorem Keeps.onlyIf {p : Bool} {x : Cmd Unit} (h : Keeps P x) : Keeps P (onlyIf p x) := by
  cases p
  · exact Keeps.pure
  · exact h

theorem Keeps.prefixCmd (hm : ∀ s n, P s → P (s.setCursor cMain ((s.cursor cMain).advance n)))
    (hz : ∀ s v, P s → P { s with sizes := v }) (hs : ∀ s, P s → s.stage = .hdr → s.failed = false → P { s with stage := .prefixed }) :
    Keeps P prefixCmd := by
  have key : ∀ (x : Cmd Unit), Keeps (fun s => P s ∧ s.stage = .hdr ∧ s.failed = false) x →
      Meets (fun s => P s ∧ s.stage = .hdr ∧ s.failed = false) x
        (fun _ s => P s ∧ s.stage = .hdr ∧ s.failed = false) (fun _ => P) :=
    fun x hx => Meets.weaken hx (fun _ h => h) (fun _ _ h => h) fun _ _ h => h.1
  have hm' : ∀ s n, (P s ∧ s.stage = .hdr ∧ s.failed = false) →
      (P (s.setCursor cMain ((s.cursor cMain).advance n)) ∧ (s.setCursor cMain ((s.cursor cMain).advance n)).stage = .hdr
        ∧ (s.setCursor cMain ((s.cursor cMain).advance n)).failed = false) := fun s n h => ⟨hm s n h.1, h.2⟩
  refine Meets.bind (Q := fun _ s => P s ∧ s.stage = .hdr ∧ s.failed = false) ?_ fun _ => ?_
  · refine Meets.raiseWhen (fun s h hr => ⟨h, ?_⟩) fun s h _ => h
    simpa [stageReady] using hr
  refine Meets.bind (key _ (Keeps.withState fun s _ => Keeps.onlyIf (Keeps.readInto hm' fun v s h => ⟨hz s _ h.1, h.2⟩))) fun _ => ?_
  refine Meets.bind (key _ (Keeps.readInto hm' fun v s h => ⟨hz s _ h.1, h.2⟩)) fun _ => ?_
  refine Meets.bind (key _ (Keeps.withState fun s _ => Keeps.onlyIf (Keeps.bind (Keeps.readInto hm' fun v s h => ⟨hz s _ h.1, h.2⟩)
    fun _ => Keeps.readInto hm' fun v s h => ⟨hz s _ h.1, h.2⟩))) fun _ => ?_
  exact Meets.write fun s h => hs s h.1 h.2.1 h.2.2

theorem Keeps.pctCmd (hm : ∀ s n, P s → P (s.setCursor cMain ((s.cursor cMain).advance n)))
    (hp : ∀ s j, P s → P (s.putCode j)) (hs : ∀ s, P s → P { s with stage := .pct }) : Keeps P pctCmd := by
  have hb : ∀ j, Keeps P (readPresence j) := by
    intro j
    refine Keeps.bind (Keeps.readOrFail fun s h => hm s _ h) fun b => Keeps.write fun s h => ?_
    split
    · exact hp s _ h
    · exact h
  have hl : ∀ n, Keeps P (Machine.forBelow n readPresence) := fun n => Keeps.forBelow n fun i _ => hb i
  unfold Machine.pctCmd
  refine Keeps.bind Keeps.raiseWhen fun _ => ?_
  generalize (256 : Nat) = n
  exact Keeps.bind (hl n) fun _ => Keeps.write hs

/-! ### SETUP -/

/-- Every write SETUP can make keeps the property. -/
structure SetupKeeps (P : State → Prop) : Prop where
  moved : ∀ s n, P s → P (s.setCursor cMain ((s.cursor cMain).advance n))
  carved : ∀ s d k, 1 ≤ d.val → d.val ≤ 5 → P s → P (s.setCursor d k)
  gw : ∀ s v, P s → P { s with gw := v }
  gh : ∀ s v, P s → P { s with gh := v }
  empty : ∀ s, P s → P s.emptyResults
  stage : ∀ s, P s → P { s with stage := .setup }

theorem Keeps.carve (h : SetupKeeps P) {d : CursorIx} {n : State → Nat} (h1 : 1 ≤ d.val) (h5 : d.val ≤ 5) : Keeps P (carve d n) := by
  refine Keeps.bind (Keeps.withState fun s _ => Keeps.write fun t ht => ?_) fun _ => Keeps.failIfErr
  exact h.carved _ _ _ h1 h5 (h.moved _ _ ht)

theorem Keeps.setupCmd (h : SetupKeeps P) : Keeps P setupCmd := by
  refine Keeps.bind Keeps.raiseWhen fun _ => ?_
  refine Keeps.bind (Keeps.carve h (by decide) (by decide)) fun _ => ?_
  refine Keeps.bind (Keeps.carve h (by decide) (by decide)) fun _ => ?_
  refine Keeps.bind (Keeps.carve h (by decide) (by decide)) fun _ => ?_
  refine Keeps.bind (Keeps.carve h (by decide) (by decide)) fun _ => ?_
  refine Keeps.bind (Keeps.write fun s hs => h.carved s _ _ (by decide) (by decide) hs) fun _ => ?_
  refine Keeps.bind (Keeps.write fun s hs => h.gw s _ hs) fun _ => ?_
  refine Keeps.bind (Keeps.write fun s hs => h.gh s _ hs) fun _ => ?_
  refine Keeps.bind Keeps.raiseWhen fun _ => ?_
  refine Keeps.bind (Keeps.write h.empty) fun _ => ?_
  exact Keeps.write h.stage

/-! ### RECON -/

/-- Every write the cell step of cell `k` can make keeps the property. -/
structure CellKeeps (P : State → Prop) (k : Nat) : Prop where
  moved : ∀ s (c : CursorIx) n, 1 ≤ c.val → c.val ≤ 4 → P s → P (s.setCursor c ((s.cursor c).advance n))
  entry : ∀ s e, P s → P (s.putEntry e)
  last : ∀ s j, P s → P (s.setLast k j)
  record : ∀ s r, P s → P (s.putRecord r)

theorem Keeps.logAppend {k : Nat} (h : CellKeeps P k) {e : Slots} {f : Nat} : Keeps P (logAppend e f k) :=
  Keeps.bind Keeps.raiseWhen fun _ => Keeps.write fun s hs => h.entry s _ hs

theorem Keeps.mapAppend {k : Nat} (h : CellKeeps P k) {f : Nat} {j : Word} {r : Bool} : Keeps P (mapAppend f k j r) :=
  Keeps.bind Keeps.raiseWhen fun _ => Keeps.write fun s hs => h.record s _ hs

theorem Keeps.readMask {k : Nat} (h : CellKeeps P k) {l : Option Word} : Keeps P (readMask l) := by
  cases l with
  | none => exact Keeps.pure
  | some j => exact Keeps.bind (Keeps.readOrFail fun s hs => h.moved s _ _ (by decide) (by decide) hs) fun _ => Keeps.pure

theorem Keeps.readRawUsage {k : Nat} (h : CellKeeps P k) : Keeps P readRawUsage := by
  refine Keeps.withState fun s _ => ?_
  split
  · exact Keeps.pure
  · exact Keeps.bind (Keeps.readOrFail fun s hs => h.moved s _ _ (by decide) (by decide) hs) fun _ => Keeps.pure

theorem Keeps.readCodes {k : Nat} (h : CellKeeps P k) (raw : Bool) (n : Nat) (p : List Byte) : Keeps P (readCodes raw n p) := by
  induction n generalizing p with
  | zero => exact Keeps.pure
  | succ n ih =>
    cases raw
    · exact fun s hs => hs
    · refine Keeps.bind (Keeps.readOrFail fun s hs => h.moved s _ _ (by decide) (by decide) hs) fun v => ?_
      split
      · exact Keeps.pure
      · exact ih _

theorem Keeps.decodeCell {k : Nat} (h : CellKeeps P k) {f : Nat} {l : Option Word} : Keeps P (decodeCell f k l) := by
  refine Keeps.bind (Keeps.readMask h) fun mask => ?_
  refine Keeps.bind (Keeps.readRawUsage h) fun raw => ?_
  refine Keeps.bind (Keeps.readCodes h raw _ _) fun p => ?_
  refine Keeps.withState fun s _ => Keeps.withState fun s _ => ?_
  refine Keeps.bind (Keeps.logAppend h) fun _ => ?_
  exact Keeps.bind (Keeps.write fun t ht => h.last t _ ht) fun _ => Keeps.mapAppend h

theorem Keeps.cellStep {k : Nat} (h : CellKeeps P k) {f : Nat} : Keeps P (cellStep f k) := by
  refine Keeps.withState fun s _ => ?_
  split
  · refine Keeps.bind (Keeps.readOrFail fun s hs => h.moved s _ _ (by decide) (by decide) hs) fun b => ?_
    split
    · exact Keeps.mapAppend h
    · exact Keeps.decodeCell h
  · exact Keeps.decodeCell h

/-- RECON, by a property that every cell step keeps. -/
theorem Keeps.reconCmd (h : ∀ k, CellKeeps P k) (hs : ∀ s, P s → P { s with stage := .done }) : Keeps P reconCmd := by
  refine Keeps.bind Keeps.raiseWhen fun _ => ?_
  refine Keeps.bind (Keeps.withState fun s _ => Keeps.forBelow _ fun f _ => ?_) fun _ => Keeps.write hs
  exact Keeps.withState fun t _ => Keeps.forEach _ fun k _ => Keeps.cellStep (h k)

/-- RECON, by a property that the cell steps of the covered cells keep. -/
theorem Keeps.reconCmd_covered (h : ∀ s f k, P s → f < s.header.fpd.toNat → k ∈ s.coveredCells f → CellKeeps P k)
    (hf : ∀ s t, P s → P t → t.header = s.header) (hs : ∀ s, P s → P { s with stage := .done }) : Keeps P Machine.reconCmd := by
  refine Keeps.bind Keeps.raiseWhen fun _ => ?_
  refine Keeps.bind (Keeps.withState fun s hs => Keeps.forBelow _ fun f hlt => Keeps.withState fun t ht => ?_) fun _ =>
    Keeps.write hs
  exact Keeps.forEach _ fun k hk => Keeps.cellStep (h t f k ht (by rw [hf s t hs ht]; exact hlt) hk)

end Sys2Proof.Machine
end

