-- ==== Sys2Proof/Tests/Slice0.lean ====
section
/-! SUPPORT. The model's own tests. Expected values come from the spec: the encodings of 30_encoding.md, the worked examples
of the rules, and the vectors of 95_test_vectors.md, named in each comment. The last part shows, for every statement with
hypotheses, a concrete state that meets them. -/
namespace Sys2Proof.Tests

open Sys2Proof Sys2Proof.Machine Sys2Proof.Claims

/-! ### Small states -/

/-- The parameters of the vectors (95_test_vectors.md, conventions), with a small source memory. -/
def params : Params := ⟨⟨0x11, 0x22, 0x33, 0x44⟩, 4096, 64, 64, 128⟩

/-- Reset with those parameters. -/
def rst : State := State.resetWith params

/-- Bytes from an address on, as a source memory in canonical form. -/
def bytesAt : Nat → List Byte → Memory
  | _, [] => []
  | a, b :: bs => if b = 0 then bytesAt (a + 1) bs else (a, b) :: bytesAt (a + 1) bs

/-- "Loaded" (95_test_vectors.md): SRC, SRCLEN and SRC_VALID written. -/
def loaded (bs : List Byte) : State := { rst with src := bytesAt 0 bs, srcLen := BitVec.ofNat 32 bs.length, srcValid := true }

/-- The state an outcome gives; reset where there is none. -/
def after (o : Host.Outcome State Fault Refusal) : State :=
  match o with
  | .next t => t
  | _ => rst

/-- The outcome is a next state. -/
def goesOn (o : Host.Outcome State Fault Refusal) : Bool :=
  match o with
  | .next _ => true
  | _ => false

/-- The source memory of 40_bitreader.md's examples with C6 over all of it, at position `p`. -/
def bits (p : DWord) : State := (loaded [0xB5, 0x3C, 0xFF, 0x00, 0x81]).setCursor 6 ⟨0, p, 40, false⟩

/-- What a word decodes to. -/
def reads (w : Word) : Option Instr := decodeTableWord 32 w.toNat

/-! ### WellFormed: each check refuses an ill-formed word (95_test_vectors.md E1 to E11) -/

theorem test_wf_opc : opcLegal 0x00000000 = false ∧ opcLegal 0x00000019 = false ∧ opcLegal 0x00000027 = false
    ∧ opcLegal 0x000000FF = false ∧ opcLegal 0x00000010 = true ∧ opcLegal 0x00000026 = true := by decide

theorem test_wf_reserved : reservedLegal 0x00008011 = false ∧ reservedLegal 0x00080018 = false
    ∧ reservedLegal 0x80000013 = false ∧ reservedLegal 0x00077F18 = true := by decide

theorem test_wf_sel : selLegal 0x00000111 = false ∧ selLegal 0x00000F13 = true ∧ selLegal 0x00000F14 = true := by decide

theorem test_wf_c : cLegal 0x00001020 = false ∧ cLegal 0x00007018 = true := by decide

theorem test_wf_d : dLegal 0x00010011 = false ∧ dLegal 0x00010020 = false ∧ dLegal 0x00070018 = true := by decide

/-- The decoder refuses each of them by name. -/
theorem test_decode_rejects :
    decode 0x00000019 = .error .reservedOpcode ∧ decode 0x80000013 = .error .reservedBits
    ∧ decode 0x00000111 = .error .selNotZero ∧ decode 0x00001020 = .error .sourceCursorNotZero
    ∧ decode 0x00010011 = .error .destCursorNotZero := by decide

/-! ### Decode: a word of every command, written bit by bit from R81 and R82
(31:19 reserved, D, 15 reserved, C, SEL, OPC) -/

theorem test_decode_one_bit :
    reads 0b0000000000000_000_0_110_0000_00010000 = some (.curopen 6)
    ∧ reads 0b0000000000000_000_0_001_0000_00010001 = some (.readbit 1)
    ∧ reads 0b0000000000000_000_0_010_0000_00010010 = some (.readbool 2) := by decide

theorem test_decode_readu_low :
    reads 0b0000000000000_000_0_001_0000_00010011 = some (.readuW0 1)
    ∧ reads 0b0000000000000_000_0_010_0001_00010011 = some (.readuW1 2)
    ∧ reads 0b0000000000000_000_0_011_0010_00010011 = some (.readuW2 3)
    ∧ reads 0b0000000000000_000_0_100_0011_00010011 = some (.readuW4 4)
    ∧ reads 0b0000000000000_000_0_101_0100_00010011 = some (.readuW6 5)
    ∧ reads 0b0000000000000_000_0_110_0101_00010011 = some (.readuW8 6)
    ∧ reads 0b0000000000000_000_0_111_0110_00010011 = some (.readuW10 7)
    ∧ reads 0b0000000000000_000_0_000_0111_00010011 = some (.readuW12 0) := by decide

theorem test_decode_readu_high :
    reads 0b0000000000000_000_0_001_1000_00010011 = some (.readuW14 1)
    ∧ reads 0b0000000000000_000_0_010_1001_00010011 = some (.readuW16 2)
    ∧ reads 0b0000000000000_000_0_011_1010_00010011 = some (.readuW20 3)
    ∧ reads 0b0000000000000_000_0_100_1011_00010011 = some (.readuW24 4)
    ∧ reads 0b0000000000000_000_0_101_1100_00010011 = some (.readuW26 5)
    ∧ reads 0b0000000000000_000_0_110_1101_00010011 = some (.readuW28 6)
    ∧ reads 0b0000000000000_000_0_111_1110_00010011 = some (.readuW30 7)
    ∧ reads 0b0000000000000_000_0_000_1111_00010011 = some (.readuW32 0) := by decide

theorem test_decode_reads_low :
    reads 0b0000000000000_000_0_001_0000_00010100 = some (.readsW0 1)
    ∧ reads 0b0000000000000_000_0_010_0001_00010100 = some (.readsW1 2)
    ∧ reads 0b0000000000000_000_0_011_0010_00010100 = some (.readsW2 3)
    ∧ reads 0b0000000000000_000_0_100_0011_00010100 = some (.readsW4 4)
    ∧ reads 0b0000000000000_000_0_101_0100_00010100 = some (.readsW6 5)
    ∧ reads 0b0000000000000_000_0_110_0101_00010100 = some (.readsW8 6)
    ∧ reads 0b0000000000000_000_0_111_0110_00010100 = some (.readsW10 7)
    ∧ reads 0b0000000000000_000_0_000_0111_00010100 = some (.readsW12 0) := by decide

theorem test_decode_reads_high :
    reads 0b0000000000000_000_0_001_1000_00010100 = some (.readsW14 1)
    ∧ reads 0b0000000000000_000_0_010_1001_00010100 = some (.readsW16 2)
    ∧ reads 0b0000000000000_000_0_011_1010_00010100 = some (.readsW20 3)
    ∧ reads 0b0000000000000_000_0_100_1011_00010100 = some (.readsW24 4)
    ∧ reads 0b0000000000000_000_0_101_1100_00010100 = some (.readsW26 5)
    ∧ reads 0b0000000000000_000_0_110_1101_00010100 = some (.readsW28 6)
    ∧ reads 0b0000000000000_000_0_111_1110_00010100 = some (.readsW30 7)
    ∧ reads 0b0000000000000_000_0_000_1111_00010100 = some (.readsW32 0) := by decide

theorem test_decode_cursor_moves :
    reads 0b0000000000000_000_0_110_0000_00010101 = some (.align 6)
    ∧ reads 0b0000000000000_000_0_111_0000_00010110 = some (.skip 7)
    ∧ reads 0b0000000000000_000_0_101_0000_00010111 = some (.size 5)
    ∧ reads 0b0000000000000_111_0_110_0000_00011000 = some (.slice 7 6) := by decide

theorem test_decode_stages :
    reads 0b0000000000000_000_0_000_0000_00100000 = some .openFile
    ∧ reads 0b0000000000000_000_0_000_0000_00100001 = some .dirhdr
    ∧ reads 0b0000000000000_000_0_000_0000_00100010 = some .readPrefix
    ∧ reads 0b0000000000000_000_0_000_0000_00100011 = some .pct
    ∧ reads 0b0000000000000_000_0_000_0000_00100100 = some .setup
    ∧ reads 0b0000000000000_000_0_000_0000_00100101 = some .recon
    ∧ reads 0b0000000000000_000_0_000_0000_00100110 = some .decodeDir := by decide

/-! ### The bit reader -/

/-- R111's example and B9: ARG0 = 0, ARG1 = 5 over 5 bytes; and 6 bytes are too many. -/
theorem test_curopen :
    (after (exec (.curopen 6) { bits 0 with arg1 := 5 })).cursor 6 = ⟨0, 0, 40, false⟩
    ∧ (after (exec (.curopen 6) { bits 0 with arg1 := 6 })).cursor 6 = ⟨0, 0, 0, true⟩
    ∧ (after (exec (.curopen 6) { bits 0 with arg1 := 6 })).err = some .truncatedStream := by decide

/-- R112's and R113's examples. -/
theorem test_readbit :
    (after (exec (.readbit 6) (bits 0))).res = 1 ∧ (after (exec (.readbit 6) (bits 0))).cursor 6 = ⟨0, 1, 40, false⟩
    ∧ (after (exec (.readbool 6) (bits 0))).res = 1 := by decide

/-- R114's example: bits 1 to 4 of 0xB5; and R119's READU.W16 at bit 24. -/
theorem test_readu :
    (after (exec (.readuW4 6) (bits 1))).res = 0xA ∧ (after (exec (.readuW4 6) (bits 1))).cursor 6 = ⟨0, 5, 40, false⟩
    ∧ (after (exec (.readuW16 6) (bits 24))).res = 0x8100 := by decide

/-- R115's example: 0xFF at bit 16 is −1. -/
theorem test_reads :
    (after (exec (.readsW8 6) (bits 16))).res = 0xFFFFFFFFFFFFFFFF
    ∧ (after (exec (.readsW8 6) (bits 16))).cursor 6 = ⟨0, 24, 40, false⟩ := by decide

/-- Every READU width on all-one bits gives its largest value (vectors B1, column U max). -/
theorem test_readu_widths :
    ([.readuW0 6, .readuW1 6, .readuW2 6, .readuW4 6, .readuW6 6, .readuW8 6, .readuW10 6, .readuW12 6, .readuW14 6,
      .readuW16 6, .readuW20 6, .readuW24 6, .readuW26 6, .readuW28 6, .readuW30 6, .readuW32 6] : List Instr).map
      (fun i => (after (exec i ((loaded [0xFF, 0xFF, 0xFF, 0xFF]).setCursor 6 ⟨0, 0, 32, false⟩))).res)
    = [0, 0x1, 0x3, 0xF, 0x3F, 0xFF, 0x3FF, 0xFFF, 0x3FFF, 0xFFFF, 0xFFFFF, 0xFFFFFF, 0x3FFFFFF, 0xFFFFFFF, 0x3FFFFFFF,
       0xFFFFFFFF] := by decide

/-- Every READS width on 0x80000000, one bit for each width before the field's end, gives its smallest value (vectors B1,
column S min). -/
theorem test_reads_widths :
    ([(.readsW0 6, 0), (.readsW1 6, 31), (.readsW2 6, 30), (.readsW4 6, 28), (.readsW6 6, 26), (.readsW8 6, 24),
      (.readsW10 6, 22), (.readsW12 6, 20), (.readsW14 6, 18), (.readsW16 6, 16), (.readsW20 6, 12), (.readsW24 6, 8),
      (.readsW26 6, 6), (.readsW28 6, 4), (.readsW30 6, 2), (.readsW32 6, 0)] : List (Instr × DWord)).map
      (fun q => (after (exec q.1 ((loaded [0, 0, 0, 0x80]).setCursor 6 ⟨0, q.2, 32, false⟩))).res)
    = [0, 0xFFFFFFFFFFFFFFFF, 0xFFFFFFFFFFFFFFFE, 0xFFFFFFFFFFFFFFF8, 0xFFFFFFFFFFFFFFE0, 0xFFFFFFFFFFFFFF80,
       0xFFFFFFFFFFFFFE00, 0xFFFFFFFFFFFFF800, 0xFFFFFFFFFFFFE000, 0xFFFFFFFFFFFF8000, 0xFFFFFFFFFFF80000,
       0xFFFFFFFFFF800000, 0xFFFFFFFFFE000000, 0xFFFFFFFFF8000000, 0xFFFFFFFFE0000000, 0xFFFFFFFF80000000] := by decide

/-- B5 and B6: a read past the end, and READU.W0 on a cursor in error. -/
theorem test_read_fails :
    (after (exec (.readbit 6) (bits 40))).err = some .truncatedStream
    ∧ (after (exec (.readbit 6) (bits 40))).cursor 6 = ⟨0, 40, 40, true⟩
    ∧ (after (exec (.readuW0 6) ((bits 0).setCursor 6 ⟨0, 8, 8, true⟩))).err = some .truncatedStream := by decide

/-- R116's example, and B13: the align past the end of a 5-bit cursor. -/
theorem test_align :
    (after (exec (.align 6) (bits 10))).cursor 6 = ⟨0, 16, 40, false⟩
    ∧ (after (exec (.align 5) ((bits 0).setCursor 5 ⟨3, 1, 5, false⟩))).cursor 5 = ⟨3, 1, 5, true⟩ := by decide

/-- R117's example: 3 bits past the end; and B3: a skip exactly to the end. -/
theorem test_skip :
    (after (exec (.skip 7) { (bits 0).setCursor 7 ⟨24, 16, 16, false⟩ with arg0 := 3 })).cursor 7 = ⟨24, 16, 16, true⟩
    ∧ (after (exec (.skip 6) { bits 0 with arg0 := 40 })).cursor 6 = ⟨0, 40, 40, false⟩ := by decide

/-- R118's example, on a cursor in error too (B7). -/
theorem test_size :
    (after (exec (.size 6) (bits 3))).res = 40
    ∧ (after (exec (.size 6) ((bits 0).setCursor 6 ⟨0, 8, 8, true⟩))).err = none := by decide

/-- R119's example, and B11: a cursor re-based on itself. -/
theorem test_slice :
    (after (exec (.slice 7 6) (bits 24))).cursor 7 = ⟨24, 0, 16, false⟩
    ∧ (after (exec (.slice 5 5) ((bits 0).setCursor 5 ⟨0, 3, 8, false⟩))).cursor 5 = ⟨3, 0, 5, false⟩ := by decide

/-! ### The stage commands -/

/-- The base file of vectors O1 to O13 with `fpd` frames and the direction bytes given. -/
def fileOf (fpd : Byte) (dir : List Byte) : State :=
  loaded ([0x11, 0x22, 0x33, 0x44, 6, 1, fpd, 0, 0, 0, 0, 0, 0, 0, 0, 0, 0, 0, 22, 0, 0, 0] ++ dir)

/-- O1: R141's example. -/
theorem test_open :
    (after (exec .openFile (fileOf 1 [0, 0, 0, 0, 0, 0, 0, 0]))).stage = .opened
    ∧ (after (exec .openFile (fileOf 1 [0, 0, 0, 0, 0, 0, 0, 0]))).header = ⟨0x44332211, 6, 1, 1, 0, 0, 0⟩
    ∧ (after (exec .openFile (fileOf 1 [0, 0, 0, 0, 0, 0, 0, 0]))).offset 0 = 22
    ∧ (after (exec .openFile (fileOf 1 [0, 0, 0, 0, 0, 0, 0, 0]))).offset 1 = 30 := by decide

/-- O4: truncation is found before the signature's mismatch; O11: an empty last direction. -/
theorem test_open_fails :
    (after (exec .openFile (loaded [0x00, 0x22, 0x33]))).err = some .truncatedStream
    ∧ (after (exec .openFile (fileOf 1 []))).err = some .invalidOffsetTable
    ∧ (after (exec .openFile (fileOf 1 []))).failed = true := by decide

/-- An open file: the bytes of direction 0 are 22 to 22 + n − 1. -/
def openFileState (fpd : Byte) (dir : List Byte) : State :=
  let s := fileOf fpd dir
  { s with header := ⟨0x44332211, 6, 1, fpd, 0, 0, 0⟩, offt := [(0, 22), (1, s.srcLen)], stage := .opened }

/-- H8's file: three frames of 23 bits, two optional-data blocks. -/
def h8 : State :=
  openFileState 3 ([0x40, 0, 0, 0, 0xC1, 0x0C, 0x91, 0x40, 0x8D, 0x1F, 0x98, 0x68, 0x30, 0x20, 0xA2, 0xF3, 0x05, 0xAA, 0xAA,
    0xAA] ++ List.replicate 40 0)

/-- H4: the direction ends inside the x offset; its header fields are R160's example. H8: the extents of the direction and of its
third frame, and where cursor 0 stands. -/
theorem test_dirhdr :
    (let t := after (exec .dirhdr (openFileState 1 [0x40, 0, 0, 0, 0xC3, 0x0C, 0x11, 0x14, 0x12]))
     t.err = some .truncatedStream ∧ t.stage = .opened ∧ t.failed = true ∧ t.outSize = 0x40 ∧ t.hasRaw = true
      ∧ t.sels = ⟨0, 3, 3, 4, 4, 0, 5⟩ ∧ t.frame 0 = ⟨0, 8, 4, 0, 0, 0, 0, false, 0, 0, 0, 0⟩
      ∧ t.cursor 0 = ⟨176, 70, 72, true⟩)
    ∧ (let t := after (exec .dirhdr h8)
       t.err = none ∧ t.stage = .hdr ∧ t.extents = ⟨BitVec.ofInt 64 (-6), 7, BitVec.ofInt 64 (-4), 7⟩
      ∧ (t.frame 2).fymin = BitVec.ofInt 64 (-4) ∧ t.cursor 0 = ⟨176, 160, 480, false⟩) := by decide +kernel

/-- R200's example: FLAGS = 0b11 and the fields 2, 4, 3, 64. -/
theorem test_prefix :
    let t := after (exec .readPrefix { (loaded [2, 0, 0x40, 0, 0, 3, 0, 0, 4, 0]).setCursor 0 ⟨0, 0, 80, false⟩ with
      stage := .hdr, hasRaw := true, compEq := true })
    t.sizes = ⟨2, 4, 3, 64⟩ ∧ t.stage = .prefixed ∧ t.cursor 0 = ⟨0, 80, 80, false⟩ := by decide

/-- R190's loop body on the map bits 7 (0) and 8 (1) of the bytes 7F 01: only 8 is listed. -/
theorem test_pct_bit :
    let s := (loaded [0x7F, 0x01]).setCursor 0 ⟨0, 7, 16, false⟩
    (match (readPresence 7 >>= fun _ => readPresence 8).run s with
     | .ok _ t => (t.pctCount, t.code 0)
     | .error _ _ => (0, 0)) = (1, 8) := by decide

/-- T6: PCT at the wrong stage. -/
theorem test_pct_sequence :
    (after (exec .pct { rst with stage := .prefixed, failed := true })).err = some .sequenceError := by decide

/-- R201's example: cursor 0 = base 176, pos 456, len 536 and the sizes 2, 4, 3, 64. -/
def p3Setup : State :=
  { rst.setCursor 0 ⟨176, 456, 536, false⟩ with
    stage := .pct, hasRaw := true, compEq := true, sizes := ⟨2, 4, 3, 64⟩, extents := ⟨0, 8, 0, 4⟩ }

theorem test_setup :
    let t := after (exec .setup p3Setup)
    (t.cursor 1, t.cursor 2, t.cursor 3) = (⟨632, 0, 2, false⟩, ⟨634, 0, 4, false⟩, ⟨638, 0, 3, false⟩)
      ∧ (t.cursor 4, t.cursor 5) = (⟨641, 0, 64, false⟩, ⟨705, 0, 7, false⟩)
      ∧ t.cursor 0 = ⟨176, 529, 536, false⟩ ∧ (t.gw, t.gh) = (2, 1) ∧ t.stage = .setup := by decide

/-- U4: a grid of 3 × 2 cells where MAX_CELLS is 5. -/
theorem test_setup_capacity :
    let t := after (exec .setup { p3Setup with extents := ⟨0, 10, 0, 6⟩, params := { params with maxCellsRaw := 5 } })
    t.err = some .capacityExceeded ∧ (t.gw, t.gh) = (3, 2) ∧ t.stage = .pct ∧ t.failed = true := by decide

/-- The state before RECON of section 2.8's vectors: `n` frames of one cell; the equal-cell bits start at SRC bit 0, the masks at
bit 8, the raw-usage bits at bit 16, the codes at bit 24. -/
def oneCell (n : Byte) (bs : List Byte) (eq mask rawu rawc : DWord) : State :=
  let s := ((((loaded bs).setCursor 1 ⟨0, 0, eq, false⟩).setCursor 2 ⟨8, 0, mask, false⟩).setCursor 3 ⟨16, 0, rawu, false⟩).setCursor 4
    ⟨24, 0, rawc, false⟩
  let h : FrameHeader := ⟨0, 4, 4, 0, 3, 0, 0, false, 0, 4, 0, 4⟩
  { s with
    stage := .setup, hasRaw := true, compEq := true, header := ⟨0, 0, 1, n, 0, 0, 0⟩, fh := [(0, h), (1, h)]
    extents := ⟨0, 4, 0, 4⟩, gw := 1, gh := 1 }

/-- RC1: four codes land in reverse order. -/
theorem test_recon :
    let t := after (exec .recon (oneCell 1 [0, 0, 1, 1, 2, 3, 4] 0 0 1 32))
    t.err = none ∧ t.stage = .done ∧ (t.entry 0).slots = ⟨4, 3, 2, 1⟩ ∧ t.record 0 = ⟨0, 0, 0, false⟩ ∧ t.mapCount = 1 := by
  decide

/-- RC12: frame 1 has mask bits 1 and 2, codes 6 6: a run terminator over the previous entry. -/
theorem test_recon_terminator :
    let t := after (exec .recon (oneCell 2 [0, 0x06, 0x03, 1, 2, 3, 4, 6, 6] 1 4 2 48))
    (t.entry 1).slots = ⟨4, 0, 6, 1⟩ ∧ t.logCount = 2 ∧ t.lastEntry 0 = some 1 := by decide

/-- H1: DECODE before any file. -/
theorem test_decode_sequence : after (exec .decodeDir rst) = { rst with err := some .sequenceError } := by decide

/-- H2: DECODE of a direction that is not there. -/
theorem test_decode_index :
    (after (exec .decodeDir { openFileState 1 [0, 0] with arg0 := 1 })).err = some .badIndex := by decide

/-! ### The host interface and the step -/

/-- R283: the host writes SRC, SRCLEN and SRCCTL; and SRCLEN is frozen then (R31). -/
theorem test_host_writes :
    (after (step { rst with hostQueue := [.writeTable 0 3 0x44] })).src = [(3, 0x44)]
    ∧ (after (step { rst with hostQueue := [.writeReg 5 30] })).srcLen = 30
    ∧ (after (step { rst with hostQueue := [.writeReg 5 4097] })).srcLen = 0
    ∧ (after (step { loaded [1] with hostQueue := [.writeReg 5 30] })).srcLen = 1
    ∧ (after (step { rst with hostQueue := [.writeReg 6 0xFFFFFFFF] })).srcValid = true := by decide

/-- A CMD write runs its command; an illegal word only writes ERR (E1). -/
theorem test_step_commands :
    (after (step ((bits 0).withFetchWord 32 0x00006011))).res = 1
    ∧ step (rst.withFetchWord 32 0) = .next { rst with err := some .illegalCommand } := by
  constructor <;> rfl

/-- STATUS: ERR 3, STAGE 0, CERR bit 6 (R28). -/
theorem test_status : readReg (after (exec (.readbit 6) (bits 40))) 4 = 0x4003 := by decide

/-! ### Witnesses: the hypotheses of every statement that has some are met, clause by clause -/

/-- A next state is what `after` gives. -/
theorem next_after {o : Host.Outcome State Fault Refusal} (h : goesOn o = true) : o = .next (after o) := by
  cases o with
  | next t => rfl
  | fault r => cases h
  | refused r => cases h

/-- A command ran to its end. -/
def ranOk (r : EStateM.Result ErrorKind State Unit) : Bool :=
  match r with
  | .ok _ _ => true
  | .error _ _ => false

/-- It ran to its end in some state, or raised some error in some state. -/
theorem ran_cases (r : EStateM.Result ErrorKind State Unit) :
    (ranOk r = true → ∃ t, r = .ok () t) ∧ (ranOk r = false → ∃ e t, r = .error e t) := by
  cases r with
  | ok a t => exact ⟨fun _ => ⟨t, rfl⟩, fun h => absurd h Bool.noConfusion⟩
  | error e t => exact ⟨fun h => absurd h Bool.noConfusion, fun _ => ⟨e, t, rfl⟩⟩

/-- R7: MAX_CELLS has a lower bound and no upper one; LOG_CAP's bound is MAP_CAP's. -/
theorem test_params :
    ({ params with maxCellsRaw := 0 } : Params).maxCells = 1 ∧ ({ params with maxCellsRaw := 2 ^ 32 } : Params).maxCells = 2 ^ 32
    ∧ ({ params with mapCapRaw := 1 } : Params).mapCap = 64 ∧ ({ params with srcCapRaw := 0 } : Params).srcCap = 18 := by decide

/-- EncodeInvertsDecode. -/
theorem test_hyp_decode : decode 0x00076018 = .ok (.slice 7 6) := by decide

/-- StepRunsDecodedCommand; the upper half of the value written is not looked at. -/
theorem test_hyp_step_runs :
    ({ rst with hostQueue := [.writeReg 0 0xFFFFFFFF00006011] } : State).hostQueue = .writeReg 0 0xFFFFFFFF00006011 :: []
    ∧ decode ((0xFFFFFFFF00006011 : DWord).setWidth 32) = .ok (.readbit 6) := by decide

/-- IllegalWordOnlyWritesErr: E11. -/
theorem test_hyp_illegal :
    ({ rst with hostQueue := [.writeReg 0 0x80000013] } : State).hostQueue = .writeReg 0 0x80000013 :: []
    ∧ wordLegal ((0x80000013 : DWord).setWidth 32) = false := by decide

/-- CoreWaitsForHost. -/
theorem test_hyp_wait : rst.hostQueue = [] := by decide

/-- HostRegisterWrites: the largest SRCLEN accepted, the two ways one is ignored, both SRCCTL writes, and a read-only number. -/
theorem test_hyp_host_register :
    (rst.srcValid = false ∧ ((4096 : DWord).setWidth 32).toNat ≤ rst.params.srcCap)
    ∧ rst.params.srcCap < ((4097 : DWord).setWidth 32).toNat ∧ (bits 0).srcValid = true
    ∧ (3 : DWord).getLsbD 0 = true ∧ (2 : DWord).getLsbD 0 = false
    ∧ ((7 : Nat) ≠ 0 ∧ (7 : Nat) ≠ 1 ∧ (7 : Nat) ≠ 2 ∧ (7 : Nat) ≠ 5 ∧ (7 : Nat) ≠ 6) := by decide

/-- SourceMemoryWrites: the last byte of SRC, the first past it, a frozen SRC, another space. -/
theorem test_hyp_source_write :
    ({ rst with hostQueue := [.writeTable 0 4095 1] } : State).hostQueue = .writeTable 0 4095 1 :: []
    ∧ rst.srcValid = false ∧ 4095 < rst.params.srcCap ∧ rst.params.srcCap ≤ 4096 ∧ (bits 0).srcValid = true
    ∧ (1 : Nat) ≠ 0 := by decide

/-- ResetInputGivesResetState. -/
theorem test_hyp_reset_input : ({ rst with hostQueue := [.reset] } : State).hostQueue = .reset :: [] := by decide

/-- StatusRegisterLayout: the reserved numbers at the ends of each range. -/
theorem test_hyp_reserved_numbers :
    ∀ no ∈ [0, 0x07, 0x0F, 0x21, 0x27, 0x48], no = 0 ∨ no = 0x07 ∨ no = 0x0F ∨ (0x21 ≤ no ∧ no ≤ 0x27) ∨ 0x48 ≤ no := by decide

/-- TablePortReads: the last index inside and the first past each table that has a parameter for its size, and both kinds of
LAST slot. -/
theorem test_hyp_table_port :
    rst.params.srcCap ≤ 4096 ∧ rst.params.maxCells ≤ 64 ∧ rst.params.logCap ≤ 64 ∧ rst.params.mapCap ≤ 128
    ∧ 4095 < rst.params.srcCap ∧ 63 < rst.params.logCap ∧ 127 < rst.params.mapCap
    ∧ 63 < rst.params.maxCells ∧ rst.lastEntry 63 = none ∧ (rst.setLast 63 5).lastEntry 63 = some 5 := by decide

/-- UnsignedReadsComplete and SignedReadsComplete: the widest read ends at the end of the cursor. -/
theorem test_hyp_reads_complete :
    ((bits 8).cursor 6).err = false
    ∧ (∀ p ∈ unsignedReads 6 ++ signedReads 6, ((bits 8).cursor 6).pos.toNat + p.2 ≤ ((bits 8).cursor 6).len.toNat)
    ∧ ((bits 8).cursor 6).pos.toNat + 32 = ((bits 8).cursor 6).len.toNat := by decide

/-- RefusedAccessesFail: one bit too few for a 2-bit read, an align past the end, a skip of one bit too many; and a cursor in
error. -/
theorem test_hyp_refused :
    ((bits 39).cursor 6).len.toNat < ((bits 39).cursor 6).pos.toNat + 2
    ∧ (Instr.readuW2 6, 2) ∈ unsignedReads 6 ++ signedReads 6
    ∧ (5 : DWord).toNat < 8 * (((1 : DWord).toNat + 7) / 8)
    ∧ ({ bits 39 with arg0 := 2 } : State).cursor 6 = ⟨0, 39, 40, false⟩ ∧ (40 : Nat) < 39 + 2
    ∧ (((bits 0).setCursor 6 ⟨0, 8, 8, true⟩).cursor 6).err = true := by decide

/-- CuropenAndSliceMakeCursors: a range up to the last byte, one byte more, and no source. -/
theorem test_hyp_curopen :
    (bits 0).srcValid = true ∧ (2 : DWord).toNat + (3 : DWord).toNat ≤ (bits 0).srcLen.toNat
    ∧ (bits 0).srcLen.toNat < (3 : DWord).toNat + (3 : DWord).toNat ∧ rst.srcValid = false := by decide

/-- AlignAndSkipMove: an align and a skip exactly to the end. -/
theorem test_hyp_align_skip :
    ((bits 33).cursor 6).err = false
    ∧ 8 * ((((bits 33).cursor 6).pos.toNat + 7) / 8) ≤ ((bits 33).cursor 6).len.toNat
    ∧ ((bits 33).cursor 6).pos.toNat + ({ bits 33 with arg0 := 7 } : State).arg0.toNat ≤ ((bits 33).cursor 6).len.toNat := by
  decide

/-- CuropenAndSliceMakeCursors: both errors. -/
theorem test_hyp_slice :
    ((bits 24).cursor 6).err = false ∧ (((bits 0).setCursor 6 ⟨0, 8, 8, true⟩).cursor 6).err = true := by decide

/-- FieldRoundTrip: all-one bits hold the largest unsigned value and −1 at every width. -/
theorem test_hyp_round_trip :
    let s := (loaded [0xFF, 0xFF, 0xFF, 0xFF]).setCursor 6 ⟨0, 0, 32, false⟩
    (s.cursor 6).err = false
    ∧ (∀ p ∈ unsignedReads 6, (s.cursor 6).pos.toNat + p.2 ≤ (s.cursor 6).len.toNat
        ∧ ∀ j, j < p.2 → srcBit s.src (nextBit (s.cursor 6) + j) = (2 ^ p.2 - 1).testBit j)
    ∧ (∀ p ∈ signedReads 6, (s.cursor 6).pos.toNat + p.2 ≤ (s.cursor 6).len.toNat
        ∧ (∀ j, j < p.2 → srcBit s.src (nextBit (s.cursor 6) + j) = (BitVec.ofInt p.2 (-1)).getLsbD j)
        ∧ (1 ≤ p.2 → -2 ^ (p.2 - 1) ≤ (-1 : Int) ∧ (-1 : Int) < 2 ^ (p.2 - 1))) := by decide

/-- BitReaderCommandsFrame and CursorsAreRemadeOnlyByMakers: a read on a cursor in error. -/
theorem test_hyp_bit_reader_frame :
    ∃ t, exec (.readbit 6) ((bits 0).setCursor 6 ⟨0, 8, 8, true⟩) = .next t
      ∧ bitReaderCursor (.readbit 6) = some 6 ∧ makesCursor (.readbit 6) 6 = false
      ∧ (((bits 0).setCursor 6 ⟨0, 8, 8, true⟩).cursor 6).err = true :=
  ⟨_, next_after (by decide), by decide⟩

/-- OpenParsesHeader: one direction that ends at the end of the file. -/
theorem test_hyp_open :
    (Memory.byte (fileOf 1 [0]).src 5).toNat = 1 ∧ (fileOf 1 [0]).srcValid = true ∧ headerLegal (fileOf 1 [0])
    ∧ 18 + 4 * 1 ≤ (fileOf 1 [0]).srcLen.toNat
    ∧ ∀ i, i < 1 → fileOffsets (fileOf 1 [0]).src (fileOf 1 [0]).srcLen.toNat 1 i
        < fileOffsets (fileOf 1 [0]).src (fileOf 1 [0]).srcLen.toNat 1 (i + 1) := by
  unfold headerLegal; decide

/-- OpenRejectsMalformedHeader: O3 in its shortest form, and O6 with the stream ending after the reserved bytes. -/
theorem test_hyp_open_malformed :
    (4 ≤ (loaded [0x11, 0x22, 0x33, 0x45]).srcLen.toNat
      ∧ signatureMatches params.signature (loaded [0x11, 0x22, 0x33, 0x45]).src = false)
    ∧ (10 ≤ (loaded [0x11, 0x22, 0x33, 0x44, 6, 1, 1, 0, 1, 0]).srcLen.toNat
      ∧ signatureMatches params.signature (loaded [0x11, 0x22, 0x33, 0x44, 6, 1, 1, 0, 1, 0]).src = true
      ∧ Memory.byte (loaded [0x11, 0x22, 0x33, 0x44, 6, 1, 1, 0, 1, 0]).src 8 ≠ 0) := by decide

/-- OpenRejectsUnorderedOffsets: O11, the last file offset equal to SRCLEN. -/
theorem test_hyp_open_offsets :
    (Memory.byte (fileOf 1 []).src 5).toNat = 1 ∧ (fileOf 1 []).srcValid = true ∧ headerLegal (fileOf 1 [])
    ∧ 18 + 4 * 1 ≤ (fileOf 1 []).srcLen.toNat ∧ 0 < 1
    ∧ fileOffsets (fileOf 1 []).src (fileOf 1 []).srcLen.toNat 1 (0 + 1)
        ≤ fileOffsets (fileOf 1 []).src (fileOf 1 []).srcLen.toNat 1 0 := by
  unfold headerLegal; decide

/-- OpenReportsMissingBytes: no source, O4, O5 with a nonzero byte 7 that the stream of 6 bytes does not hold, 9 bytes with a
nonzero byte 8, and one byte short of the offset table. -/
theorem test_hyp_open_missing :
    rst.srcValid = false ∧ (loaded [0x00, 0x22, 0x33]).srcValid = true ∧ (loaded [0x00, 0x22, 0x33]).srcLen.toNat < 4
    ∧ (∀ s ∈ [{ loaded [0x11, 0x22, 0x33, 0x44, 6, 1, 1, 9] with srcLen := 6 }, loaded [0x11, 0x22, 0x33, 0x44, 6, 1, 1, 0, 7],
          { fileOf 1 [] with srcLen := 21 }],
        s.srcValid = true ∧ 4 ≤ s.srcLen.toNat ∧ signatureMatches s.params.signature s.src = true
        ∧ (10 ≤ s.srcLen.toNat → Memory.byte s.src 7 = 0 ∧ Memory.byte s.src 8 = 0 ∧ Memory.byte s.src 9 = 0)
        ∧ s.srcLen.toNat < 18 + 4 * (Memory.byte s.src 5).toNat) := by decide

/-- OpenFrame. -/
theorem test_hyp_open_frame : ∃ t, exec .openFile (fileOf 1 [0]) = .next t := ⟨_, next_after (by decide)⟩

/-- CommandErrorsChangeOnlyErr: no file, the first index past DIRCNT, a stage command after a failure. -/
theorem test_hyp_command_errors :
    rst.stage = .idle
    ∧ ({ openFileState 1 [0] with arg0 := 1 } : State).stage ≠ .idle
    ∧ (openFileState 1 [0]).header.dirCnt.toNat ≤ (1 : DWord).toNat
    ∧ (Instr.pct, Stage.prefixed) ∈ [(Instr.readPrefix, Stage.hdr), (.pct, .prefixed), (.setup, .pct), (.recon, .setup)]
    ∧ ({ rst with stage := .prefixed, failed := true } : State).failed = true := by decide

/-- H8's file cut to the 20 bytes that its headers and optional data need. -/
def h8Cut : State :=
  openFileState 3 [0x40, 0, 0, 0, 0xC1, 0x0C, 0x91, 0x40, 0x8D, 0x1F, 0x98, 0x68, 0x30, 0x20, 0xA2, 0xF3, 0x05, 0xAA, 0xAA, 0xAA]

/-- DirhdrParsesDirection and DirhdrClearsDirectionState: the headers end exactly at the direction's end. -/
theorem test_hyp_dirhdr :
    directionSelected h8Cut ∧ directionBytes h8Cut 22 20 ∧ headersEnd h8Cut.src (8 * 22) h8Cut.header.fpd.toNat = 8 * 20 := by
  unfold directionSelected directionBytes; decide

/-- DirhdrReportsTruncation: one byte less. -/
theorem test_hyp_dirhdr_truncated :
    directionSelected { h8Cut with offt := [(0, 22), (1, 41)] } ∧ directionBytes { h8Cut with offt := [(0, 22), (1, 41)] } 22 19
    ∧ 8 * 19 < headersEnd h8Cut.src (8 * 22) h8Cut.header.fpd.toNat := by
  unfold directionSelected directionBytes; decide

/-- DirhdrClearsDirectionState on a direction that ends early: H4, which test_dirhdr shows to fail. -/
theorem test_hyp_dirhdr_clears :
    directionSelected (openFileState 1 [0x40, 0, 0, 0, 0xC3, 0x0C, 0x11, 0x14, 0x12])
    ∧ directionBytes (openFileState 1 [0x40, 0, 0, 0, 0xC3, 0x0C, 0x11, 0x14, 0x12]) 22 9 := by
  unfold directionSelected directionBytes; decide

/-- ExtentsFollowFormulas, with frames and without. -/
theorem test_hyp_extents :
    (∃ t, exec .dirhdr h8Cut = .next t ∧ t.err = none ∧ 1 ≤ t.header.fpd.toNat)
    ∧ (∃ t, exec .dirhdr (openFileState 0 [0, 0, 0, 0, 0, 0, 0, 0]) = .next t ∧ t.err = none ∧ t.header.fpd.toNat = 0) := by
  have h : (goesOn (exec .dirhdr h8Cut) = true ∧ (after (exec .dirhdr h8Cut)).err = none
        ∧ 1 ≤ (after (exec .dirhdr h8Cut)).header.fpd.toNat)
      ∧ (goesOn (exec .dirhdr (openFileState 0 [0, 0, 0, 0, 0, 0, 0, 0])) = true
        ∧ (after (exec .dirhdr (openFileState 0 [0, 0, 0, 0, 0, 0, 0, 0]))).err = none
        ∧ (after (exec .dirhdr (openFileState 0 [0, 0, 0, 0, 0, 0, 0, 0]))).header.fpd.toNat = 0) := by decide +kernel
  exact ⟨⟨_, next_after h.1.1, h.1.2⟩, ⟨_, next_after h.2.1, h.2.2⟩⟩

/-- PrefixReadsLengths: four prefixes that end at the end of cursor 0; PrefixAndPctReportTruncation: one bit less. -/
theorem test_hyp_prefix :
    let s : State := { (bits 0).setCursor 0 ⟨0, 0, 80, false⟩ with stage := .hdr, hasRaw := true, compEq := true }
    s.stage = .hdr ∧ s.failed = false ∧ (s.cursor cMain).err = false
      ∧ (s.cursor cMain).pos.toNat + 20 * prefixCount s ≤ (s.cursor cMain).len.toNat
      ∧ ((s.setCursor cMain ⟨0, 0, 79, false⟩).cursor cMain).len.toNat < 0 + 20 * prefixCount s := by decide

/-- PctListsPresentValues: a map that ends at the end of cursor 0 and lists a value; PrefixAndPctReportTruncation: one bit
less. -/
theorem test_hyp_pct :
    let s : State := { (bits 0).setCursor 0 ⟨0, 0, 256, false⟩ with stage := .prefixed }
    s.stage = .prefixed ∧ s.failed = false ∧ s.pctCount = 0 ∧ (s.cursor cMain).err = false
      ∧ (s.cursor cMain).pos.toNat + 256 ≤ (s.cursor cMain).len.toNat
      ∧ srcBit s.src (nextBit (s.cursor cMain) + 39) = true
      ∧ ((s.setCursor cMain ⟨0, 0, 255, false⟩).cursor cMain).len.toNat < 0 + 256 := by decide

/-- SetupCarvesSubStreams: sizes that use up cursor 0, and a grid of exactly MAX_CELLS cells. -/
theorem test_hyp_setup :
    let s : State := { p3Setup.setCursor 0 ⟨176, 456, 529, false⟩ with params := { params with maxCellsRaw := 2 } }
    s.stage = .pct ∧ s.failed = false ∧ (s.cursor cMain).err = false ∧ extentsFit s.extents
      ∧ (s.cursor cMain).pos.toNat + eqLen s + maskLen s + rawuLen s + rawcLen s ≤ (s.cursor cMain).len.toNat
      ∧ cellsAcross s.extents.xmin s.extents.xmax * cellsAcross s.extents.ymin s.extents.ymax ≤ s.params.maxCells := by
  unfold extentsFit; decide

/-- SetupFailures: one bit less in cursor 0 (RAWC does not fit), a cursor 0 in error (EQ fails), and one cell more than
MAX_CELLS. -/
theorem test_hyp_setup_failures :
    (p3Setup.setCursor 0 ⟨176, 456, 528, false⟩).stage = .pct
    ∧ ((528 : DWord).toNat < (456 : DWord).toNat + eqLen p3Setup + maskLen p3Setup + rawuLen p3Setup + rawcLen p3Setup)
    ∧ firstMisfit p3Setup ⟨176, 456, 528, false⟩ 3 ∧ firstMisfit p3Setup ⟨176, 456, 536, true⟩ 0
    ∧ ((p3Setup.setCursor 0 ⟨176, 456, 536, true⟩).cursor cMain).err = true
    ∧ extentsFit p3Setup.extents
    ∧ ({ params with maxCellsRaw := 1 } : Params).maxCells
        < cellsAcross p3Setup.extents.xmin p3Setup.extents.xmax * cellsAcross p3Setup.extents.ymin p3Setup.extents.ymax := by
  unfold extentsFit; decide

/-- CellsTileDirection: S4, a direction of 10 × 6 pixels. -/
theorem test_hyp_cells :
    let s : State := { rst with extents := ⟨0, 10, 0, 6⟩, gw := 3, gh := 2 }
    s.extents.xmin.toInt < s.extents.xmax.toInt ∧ s.gw.toNat = cellsAcross s.extents.xmin s.extents.xmax
      ∧ s.extents.ymin.toInt < s.extents.ymax.toInt ∧ s.gh.toNat = cellsAcross s.extents.ymin s.extents.ymax := by decide

/-- CoveredCellsAreThoseMet: U5's frame 0, [2, 5) × [0, 3) in a direction [0, 9) × [0, 9), meets the cells 0 and 1. -/
theorem test_hyp_covered :
    let s : State := { rst with
      extents := ⟨0, 9, 0, 9⟩, gw := 3, gh := 3, fh := [(0, ⟨0, 3, 3, 2, 0, 0, 0, true, 2, 5, 0, 3⟩)] }
    frameInside s.extents (s.frame 0) ∧ s.gw.toNat = cellsAcross s.extents.xmin s.extents.xmax
      ∧ s.gh.toNat = cellsAcross s.extents.ymin s.extents.ymax ∧ s.coveredCells 0 = [0, 1] := by
  unfold frameInside; decide

/-- ReconCompletes: RC1, one cell step with EQ and MASK empty; RC13, two steps of one cell with COMPEQ = 0 and EQ empty; both with
exactly the bits and the room the worst case needs; and no cell step. -/
theorem test_hyp_recon :
    let a : State := { oneCell 1 [0, 0, 1, 1, 2, 3, 4] 0 0 1 32 with params := { params with logCapRaw := 1, mapCapRaw := 1 } }
    let b : State := { oneCell 2 [0, 0x0F, 3, 1, 2, 3, 4, 9, 8, 7, 6] 0 4 2 64 with
      compEq := false, params := { params with logCapRaw := 2, mapCapRaw := 2 } }
    (∀ s ∈ [a, b],
      s.stage = .setup ∧ s.failed = false
      ∧ (0 < revisitsOf s → (s.compEq = true → canRead s cEq (revisitsOf s)) ∧ canRead s cMask (4 * revisitsOf s))
      ∧ s.hasRaw = true ∧ canRead s cRawu (cellSteps s).length ∧ canRead s cRawc (32 * (cellSteps s).length)
      ∧ (∀ j, j < (cellSteps s).length → srcBit s.src (nextBit (s.cursor cRawu) + j) = true)
      ∧ s.logCount.toNat + (cellSteps s).length ≤ s.params.logCap ∧ s.mapCount.toNat + (cellSteps s).length ≤ s.params.mapCap)
    ∧ (revisitsOf a = 0 ∧ (cellSteps a).length = 1 ∧ revisitsOf b = 1 ∧ (cellSteps b).length = 2)
    ∧ (cellSteps { a with header := ⟨0, 0, 1, 0, 0, 0, 0⟩ }).length = 0 := by decide

/-- ReconCompletes' first clauses: RC1's cell steps end, RC7's raise. -/
theorem test_hyp_recon_steps :
    (∃ t, (runSteps (cellSteps (oneCell 1 [0, 0, 1, 1, 2, 3, 4] 0 0 1 32))).run (oneCell 1 [0, 0, 1, 1, 2, 3, 4] 0 0 1 32) = .ok () t)
    ∧ ∃ e t, (runSteps (cellSteps (oneCell 1 [0, 0, 0] 0 0 1 0))).run (oneCell 1 [0, 0, 0] 0 0 1 0) = .error e t :=
  ⟨(ran_cases _).1 (by decide), (ran_cases _).2 (by decide)⟩

/-- EqualCellReusesEntry: RC9's second frame; the same with MAP full (RC17); and RC14, an empty EQ stream. -/
theorem test_hyp_equal_cell :
    let s := (oneCell 2 [1, 0, 1] 1 0 1 0).setLast 0 0
    let e := (oneCell 2 [1, 0, 1] 0 0 1 0).setLast 0 0
    s.lastEntry 0 = some 0 ∧ s.compEq = true ∧ nextBitIs s cEq true ∧ s.mapCount.toNat ≠ s.params.mapCap
      ∧ ({ s with mapCount := 128 } : State).mapCount.toNat = s.params.mapCap
      ∧ e.lastEntry 0 = some 0 ∧ e.compEq = true ∧ ¬ canRead e cEq 1 := by decide

/-- RawCellBuildsEntry: RC5 (no prior entry), RC11 (a prior entry, one code), RC10 (a prior entry, no code); LOG and MAP full. -/
theorem test_hyp_raw_cell :
    let a := oneCell 1 [0, 0, 1, 1, 2, 1, 2] 0 0 1 32
    let b := (oneCell 2 [0, 0x08, 1, 9] 1 4 1 8).setLast 0 0
    let c := (oneCell 2 [0, 0, 0] 1 4 1 0).setLast 0 0
    (reachesCodes a 0 none ∧ reachesCodes b 0 (some 0) ∧ reachesCodes c 0 (some 0))
      ∧ (popcount4 (cellMask a none) = 4 ∧ popcount4 (cellMask b (some 0)) = 1 ∧ popcount4 (cellMask c (some 0)) = 0)
      ∧ (nextBitIs a cRawu true ∧ nextBitIs b cRawu true ∧ canRead c cRawu 1)
      ∧ (a.hasRaw = true ∧ canRead a cRawc (8 * 4) ∧ canRead b cRawc (8 * 1))
      ∧ (∀ i, i < 3 → rawCode a i ≠ rawCode a (i + 1))
      ∧ (a.logCount.toNat ≠ a.params.logCap ∧ a.mapCount.toNat ≠ a.params.mapCap)
      ∧ ({ a with logCount := 64 } : State).logCount.toNat = a.params.logCap
      ∧ ({ a with mapCount := 128 } : State).mapCount.toNat = a.params.mapCap := by decide

/-- RunTerminatorEndsCell: RC6, RC3 and RC4 (the 2nd, 3rd and 4th code), and RC12 (a prior entry, two codes). -/
theorem test_hyp_terminator :
    (∀ p ∈ [(oneCell 1 [0, 0, 1, 0, 0] 0 0 1 16, (none : Option Word), 2), (oneCell 1 [0, 0, 1, 1, 2, 2] 0 0 1 24, none, 3),
        (oneCell 1 [0, 0, 1, 1, 2, 3, 3] 0 0 1 32, none, 4), ((oneCell 2 [0, 0x06, 1, 6, 6] 1 4 1 16).setLast 0 0, some 0, 2)],
      reachesCodes p.1 0 p.2.1 ∧ 2 ≤ p.2.2 ∧ p.2.2 ≤ popcount4 (cellMask p.1 p.2.1) ∧ p.1.hasRaw = true ∧ nextBitIs p.1 cRawu true
      ∧ canRead p.1 cRawc (8 * p.2.2) ∧ rawCode p.1 (p.2.2 - 2) = rawCode p.1 (p.2.2 - 1)
      ∧ ∀ i, i < p.2.2 - 2 → rawCode p.1 i ≠ rawCode p.1 (i + 1)) := by decide

/-- EntrySlotsFromCodes: two codes for two of the four slots. -/
theorem test_hyp_slots : ([1, 2] : List Byte).length = popcount4 0b1010 ∧ (0b1010 : BitVec 4).getLsbD 1 = true
    ∧ (0b1010 : BitVec 4).getLsbD 0 = false := by decide

/-- IncrementalCellFails: RC7 and RC15 (no prior entry), a prior entry with mask 0b1000 and raw-usage bit 0, and RC10 (mask 0). -/
theorem test_hyp_incremental :
    let a := oneCell 1 [0, 0, 0] 0 0 1 0
    let b := (oneCell 2 [0, 0x08, 0] 1 4 1 0).setLast 0 0
    let c := (oneCell 2 [0, 0, 0] 1 4 1 0).setLast 0 0
    (reachesCodes a 0 none ∧ incremental a ∧ cellMask a none ≠ 0 ∧ incremental { a with hasRaw := false })
      ∧ (reachesCodes b 0 (some 0) ∧ incremental b ∧ cellMask b (some 0) ≠ 0)
      ∧ (reachesCodes c 0 (some 0) ∧ incremental c ∧ cellMask c (some 0) = 0) := by decide

/-- IncrementalCellFails, what is not there: a mask of 3 bits, no raw-usage bit, and RC8 (the 4th code missing). -/
theorem test_hyp_cell_truncated :
    let d := (oneCell 2 [0, 0, 1] 1 3 1 0).setLast 0 0
    let e := oneCell 1 [0, 0, 1] 0 0 0 0
    let g := oneCell 1 [0, 0, 1, 1, 2, 3] 0 0 1 24
    (reachesMask d 0 (some 0) ∧ ¬ canRead d cMask 4)
      ∧ (reachesCodes e 0 none ∧ e.hasRaw = true ∧ ¬ canRead e cRawu 1)
      ∧ (reachesCodes g 0 none ∧ g.hasRaw = true ∧ nextBitIs g cRawu true ∧ 3 < popcount4 (cellMask g none))
      ∧ (canRead g cRawc (8 * 3) ∧ ¬ canRead g cRawc (8 * (3 + 1)) ∧ ∀ j, j < 2 → rawCode g j ≠ rawCode g (j + 1)) := by decide

/-- RC1's state before RECON. -/
def rc1 : State := oneCell 1 [0, 0, 1, 1, 2, 3, 4] 0 0 1 32

/-- ReconKeepsLogAppendOnly and LogStaysSound: RECON from RC1's state, and the CMD write that issues it. -/
theorem test_hyp_log_sound :
    LogSound rc1 ∧ (∃ t, exec .recon rc1 = .next t)
    ∧ LogSound (rc1.withFetchWord 32 0x00000025) ∧ ∃ t, step (rc1.withFetchWord 32 0x00000025) = .next t := by
  refine ⟨⟨by decide, by decide, fun _ => ⟨by decide, by decide, ?_⟩⟩, ⟨_, next_after (by decide)⟩,
    ⟨by decide, by decide, fun _ => ⟨by decide, by decide, ?_⟩⟩, _, next_after (by decide)⟩
  all_goals
    intro k h _ hk
    cases hk

/-- ReconAndDecodeFrame and IncrementalStreamNeverRead. -/
theorem test_hyp_recon_frame : (∃ t, exec .recon rc1 = .next t) ∧ ∃ t, exec .decodeDir rst = .next t :=
  ⟨⟨_, next_after (by decide)⟩, ⟨_, next_after (by decide)⟩⟩

/-- DecodeFramelessDirection: both flags 1 and the direction's last bits used: 62 + 80 + 256 bits in 50 bytes. -/
theorem test_hyp_decode_frameless :
    let s := openFileState 0 ([0, 0, 0, 0, 3] ++ List.replicate 45 0)
    directionSelected s ∧ directionBytes s 22 50 ∧ s.header.fpd.toNat = 0 ∧ srcBit s.src (8 * 22 + 32) = true
      ∧ srcBit s.src (8 * 22 + 33) = true
      ∧ 62 + 20 * (true.toNat + 1 + 2 * true.toNat) + 256 + fieldAt s.src (8 * 22 + 62) 20 + fieldAt s.src (8 * 22 + 82) 20
          + (fieldAt s.src (8 * 22 + 102) 20 + fieldAt s.src (8 * 22 + 122) 20) ≤ 8 * 50 := by
  unfold directionSelected directionBytes; decide

/-- FailedFollowsStageErrors: a bit-reader command, a stage command that succeeds, one with a data error, one with a command
error. -/
theorem test_hyp_failed :
    bitReaderCursor (.size 6) ≠ none ∧ bitReaderCursor .openFile = none ∧ bitReaderCursor .decodeDir = none
    ∧ (after (exec .openFile (fileOf 1 [0]))).err = none
    ∧ (after (exec .openFile (fileOf 1 []))).err = some .invalidOffsetTable ∧ isDataError .invalidOffsetTable = true
    ∧ (after (exec .decodeDir rst)).err = some .sequenceError ∧ isDataError .sequenceError = false := by decide

/-- StoresStayCanonical: the host writes a byte into a file's stores. -/
theorem test_hyp_stores :
    let s : State := { openFileState 1 [0] with srcValid := false, hostQueue := [.writeTable 0 3 0] }
    StoresCanonical s ∧ goesOn (step s) = true := by
  unfold StoresCanonical; decide

/-- CursorsStayInRange: a slice of a cursor at its end. -/
theorem test_hyp_cursors :
    let s := (bits 40).withFetchWord 32 0x00076018
    CursorsInRange s ∧ goesOn (step s) = true := by
  unfold CursorsInRange CursorInRange; decide

/-- OffsetTableStaysOrdered: an open file, and a CMD write of DIRHDR. -/
theorem test_hyp_offsets :
    let s := (openFileState 1 [0]).withFetchWord 32 0x00000021
    OffsetsOrdered s ∧ s.stage ≠ .idle ∧ goesOn (step s) = true := by
  unfold OffsetsOrdered; decide

/-- GeometryStaysSound: two frames that fill a direction of one cell, and a CMD write of RECON. -/
theorem test_hyp_geometry :
    let s := (oneCell 2 [] 0 0 0 0).withFetchWord 32 0x00000025
    GeometrySound s ∧ s.stage = .setup ∧ goesOn (step s) = true := by
  unfold GeometrySound extentsFit frameInside; decide

/-- CodeTableStaysOrdered: a table of two codes at stage PCT, and a CMD write of SETUP. -/
theorem test_hyp_codes :
    let s : State := ({ p3Setup with pctCount := 2, pct := [(0, 3), (1, 17)] } : State).withFetchWord 32 0x00000024
    CodesOrdered s ∧ goesOn (step s) = true := by
  refine ⟨⟨by decide, fun _ => ⟨by decide, ?_⟩⟩, by decide⟩
  intro i j hij hj
  have hj2 : j < 2 := hj
  obtain ⟨rfl, rfl⟩ : i = 0 ∧ j = 1 := by omega
  decide

end Sys2Proof.Tests
end

/-! PROOF of O52 (R11, R23, R30, R255): every command completes, and none of its writes is to the host's part of the state.
The single writes of a stage command are those of Laws/Stages.lean, and each keeps the host's part by its own definition. -/
namespace Sys2Proof.Machine

/-! ### Every command completes -/

/-- Every arm of `exec` runs a program to its end, and so answers a next state: none faults or refuses (R255). -/
theorem exec_next (i : Instr) (s : State) : ∃ t, exec i s = .next t := by
  cases i with
  | size c => exact ⟨_, exec_size c s⟩
  | _ => exact complete_next _ _ s

/-- A command that is no bit-reader command is one of the seven stage commands (R82). -/
theorem stageCommand_forms {i : Instr} (h : bitReaderCursor i = none) :
    i = .openFile ∨ i = .dirhdr ∨ i = .readPrefix ∨ i = .pct ∨ i = .setup ∨ i = .recon ∨ i = .decodeDir := by
  cases i with
  | openFile | dirhdr | readPrefix | pct | setup | recon | decodeDir => simp
  | _ => cases h

/-! ### The host's part of the state -/

/-- `t` has the source memory, the registers only the host writes, the parameters and the pending host actions of `s`. -/
def SameHostState (s t : State) : Prop :=
  t.src = s.src ∧ t.srcLen = s.srcLen ∧ t.srcValid = s.srcValid ∧ t.arg0 = s.arg0 ∧ t.arg1 = s.arg1 ∧ t.params = s.params ∧
    t.hostQueue = s.hostQueue

theorem SameHostState.refl (s : State) : SameHostState s s := ⟨rfl, rfl, rfl, rfl, rfl, rfl, rfl⟩

variable {s : State}

/-! ### What each stage command writes

A write to other fields leaves the seven projections as they were, so the hypothesis is the conclusion: `fun _ h => h`. -/

theorem openCmd_keeps_hostState : Keeps (SameHostState s) openCmd :=
  Keeps.openCmd (fun _ h => h) (fun _ _ h => h) (fun _ _ _ h => h) (fun _ h => h)

theorem dirhdr_writes_keep_hostState : DirhdrKeeps (SameHostState s) where
  start _ _ h := h
  made _ _ _ h := h
  moved _ _ h := h
  outSize _ _ h := h
  hasRaw _ _ h := h
  compEq _ _ h := h
  sels _ _ h := h
  frame _ _ _ h := h
  extents _ _ h := h
  stage _ h := h

theorem setup_writes_keep_hostState : SetupKeeps (SameHostState s) where
  moved _ _ h := h
  carved _ _ _ _ _ h := h
  gw _ _ h := h
  gh _ _ h := h
  empty _ h := h
  stage _ h := h

theorem cell_writes_keep_hostState (k : Nat) : CellKeeps (SameHostState s) k where
  moved _ _ _ _ _ h := h
  entry _ _ h := h
  last _ _ h := h
  record _ _ h := h

theorem dirhdrCmd_keeps_hostState : Keeps (SameHostState s) dirhdrCmd :=
  Keeps.dirhdrCmd dirhdr_writes_keep_hostState

theorem prefixCmd_keeps_hostState : Keeps (SameHostState s) prefixCmd :=
  Keeps.prefixCmd (fun _ _ h => h) (fun _ _ h => h) (fun _ h _ _ => h)

theorem pctCmd_keeps_hostState : Keeps (SameHostState s) pctCmd :=
  Keeps.pctCmd (fun _ _ h => h) (fun _ _ h => h) (fun _ h => h)

theorem setupCmd_keeps_hostState : Keeps (SameHostState s) setupCmd :=
  Keeps.setupCmd setup_writes_keep_hostState

theorem reconCmd_keeps_hostState : Keeps (SameHostState s) reconCmd :=
  Keeps.reconCmd cell_writes_keep_hostState (fun _ h => h)

/-- DECODE is the five stages one after the other (R225). -/
theorem decodeCmd_keeps_hostState : Keeps (SameHostState s) decodeCmd :=
  Keeps.bind dirhdrCmd_keeps_hostState fun _ =>
  Keeps.bind prefixCmd_keeps_hostState fun _ =>
  Keeps.bind pctCmd_keeps_hostState fun _ =>
  Keeps.bind setupCmd_keeps_hostState fun _ =>
  reconCmd_keeps_hostState

/-! ### Every command -/

/-- Ending a command writes only ERR and FAILED, so a program that keeps the host's part keeps it to its end. -/
theorem complete_keeps_hostState {g : CmdGroup} {x : Cmd Unit} {t : State} (h : Keeps (SameHostState s) x)
    (ht : complete g x s = .next t) : SameHostState s t :=
  h.complete (fun _ _ hu => hu) (fun _ hu => hu) (SameHostState.refl s) ht

/-- A bit-reader command writes at most RES, ERR and one cursor. -/
theorem exec_bitReader_keeps_hostState {i : Instr} {c : CursorIx} {t : State} (hc : bitReaderCursor i = some c)
    (ht : exec i s = .next t) : SameHostState s t := by
  rcases exec_bitReader_cases hc ht with ⟨w, r, rfl, -, -⟩ | ⟨-, rfl⟩ | ⟨e, -, rfl⟩ | ⟨-, -, rfl⟩ | ⟨-, -, rfl⟩
  all_goals exact SameHostState.refl s

theorem exec_stage_keeps_hostState {i : Instr} {t : State} (hc : bitReaderCursor i = none) (ht : exec i s = .next t) :
    SameHostState s t := by
  rcases stageCommand_forms hc with rfl | rfl | rfl | rfl | rfl | rfl | rfl
  · exact complete_keeps_hostState openCmd_keeps_hostState ht
  · exact complete_keeps_hostState dirhdrCmd_keeps_hostState ht
  · exact complete_keeps_hostState prefixCmd_keeps_hostState ht
  · exact complete_keeps_hostState pctCmd_keeps_hostState ht
  · exact complete_keeps_hostState setupCmd_keeps_hostState ht
  · exact complete_keeps_hostState reconCmd_keeps_hostState ht
  · exact complete_keeps_hostState decodeCmd_keeps_hostState ht

/-- No command writes the host's part of the state (R23, R30). -/
theorem exec_keeps_hostState {i : Instr} {t : State} (ht : exec i s = .next t) : SameHostState s t := by
  cases hc : bitReaderCursor i with
  | some c => exact exec_bitReader_keeps_hostState hc ht
  | none => exact exec_stage_keeps_hostState hc ht

/-- Settles O52: every arm of `exec` completes a program, and no write of any program touches the host's part. -/
theorem commandsNeverWriteHostState : Obligations.CommandsNeverWriteHostState := by
  intro i s
  obtain ⟨t, ht⟩ := exec_next i s
  exact ⟨t, ht, exec_keeps_hostState ht⟩

end Sys2Proof.Machine

/-! The tables after a write: what an index reads as (R34, R40, R42, R43, R44, R46). -/
namespace Sys2Proof.Machine

theorem State.offset_setOffset (s : State) (i j : Nat) (v : Word) :
    (s.setOffset i v).offset j = if j = i then v else s.offset j := Store.get_set ..

theorem State.frame_setFrame (s : State) (f g : Nat) (h : FrameHeader) :
    (s.setFrame f h).frame g = if g = f then h else s.frame g := Store.get_set ..

theorem State.code_putCode (s : State) (j : Byte) (k : Nat) :
    (s.putCode j).code k = if k = s.pctCount.toNat then j else s.code k := Store.get_set ..

theorem State.lastEntry_setLast (s : State) (k l : Nat) (j : Word) :
    (s.setLast k j).lastEntry l = if l = k then some j else s.lastEntry l := Store.get_set s.last k l (some j)

theorem State.entry_putEntry (s : State) (e : LogEntry) (j : Nat) :
    (s.putEntry e).entry j = if j = s.logCount.toNat then e else s.entry j := Store.get_set ..

theorem State.record_putRecord (s : State) (r : MapRecord) (j : Nat) :
    (s.putRecord r).record j = if j = s.mapCount.toNat then r else s.record j := Store.get_set ..

/-! ### Writes to the other tables

Each is unfolded to the one field it reads, as comparing whole states is slow. -/

@[simp] theorem State.cells_setLast (s : State) (k : Nat) (j : Word) : (s.setLast k j).cells = s.cells := by
  simp only [State.cells, State.setLast_gw, State.setLast_gh]

@[simp] theorem State.cells_putEntry (s : State) (e : LogEntry) : (s.putEntry e).cells = s.cells := by
  simp only [State.cells, State.putEntry_gw, State.putEntry_gh]

@[simp] theorem State.cells_putRecord (s : State) (r : MapRecord) : (s.putRecord r).cells = s.cells := by
  simp only [State.cells, State.putRecord_gw, State.putRecord_gh]

@[simp] theorem State.lastEntry_putEntry (s : State) (e : LogEntry) (k : Nat) : (s.putEntry e).lastEntry k = s.lastEntry k := by
  simp only [State.lastEntry, State.putEntry_last]

@[simp] theorem State.lastEntry_putRecord (s : State) (r : MapRecord) (k : Nat) :
    (s.putRecord r).lastEntry k = s.lastEntry k := by
  simp only [State.lastEntry, State.putRecord_last]

@[simp] theorem State.entry_setLast (s : State) (k : Nat) (l : Word) (j : Nat) : (s.setLast k l).entry j = s.entry j := by
  simp only [State.entry, State.setLast_log]

@[simp] theorem State.entry_putRecord (s : State) (r : MapRecord) (j : Nat) : (s.putRecord r).entry j = s.entry j := by
  simp only [State.entry, State.putRecord_log]

@[simp] theorem State.record_setLast (s : State) (k : Nat) (l : Word) (j : Nat) : (s.setLast k l).record j = s.record j := by
  simp only [State.record, State.setLast_map]

@[simp] theorem State.record_putEntry (s : State) (e : LogEntry) (j : Nat) : (s.putEntry e).record j = s.record j := by
  simp only [State.record, State.putEntry_map]

end Sys2Proof.Machine

/-! How an invariant is kept by every step: by what each host action writes (R21, R30 to R32, R84, R280), and by what each
command does. The invariants O54 to O59 are assembled from this. -/
namespace Sys2Proof.Machine

/-- Every write a host action makes by itself, without a command, keeps the property. -/
structure HostKeeps (P : State → Prop) : Prop where
  queue : ∀ s q, P s → P { s with hostQueue := q }
  arg0 : ∀ s v, P s → P { s with arg0 := v }
  arg1 : ∀ s v, P s → P { s with arg1 := v }
  srcLen : ∀ s v, P s → s.srcValid = false → v.toNat ≤ s.params.srcCap → P { s with srcLen := v }
  enable : ∀ s, P s → P { s with srcValid := true }
  disable : ∀ s, P s → P { s.release with srcValid := false }
  byte : ∀ s a b, P s → a < s.params.srcCap → P { s with src := Memory.setByte s.src a b }
  reset : ∀ s, P s → P (hostReset s)

/-- A stage command keeps the property: where it ends, and after the error it raised is taken (R253). -/
abbrev StageKeeps (P : State → Prop) (x : Cmd Unit) : Prop := Meets P x (fun _ => P) fun e u => P (takeError .stage e u)

/-- Every command keeps the property. -/
structure CommandsKeep (P : State → Prop) : Prop where
  bitReader : ∀ i c s t, bitReaderCursor i = some c → exec i s = .next t → P s → P t
  illegal : ∀ s, P s → P (takeError .bitReader .illegalCommand s)
  succeeded : ∀ s, P s → P (succeed s)
  openFile : StageKeeps P openCmd
  dirhdr : StageKeeps P dirhdrCmd
  readPrefix : StageKeeps P prefixCmd
  pct : StageKeeps P pctCmd
  setup : StageKeeps P setupCmd
  recon : StageKeeps P reconCmd

variable {P : State → Prop}

/-- A property that does not speak of RES, ERR and the cursors is kept by the bit-reader commands (R110). -/
theorem bitReader_keeps (h : ∀ s r e cs, P s → P { s with res := r, err := e, cursors := cs }) {i : Instr} {c : CursorIx}
    {s t : State} (hc : bitReaderCursor i = some c) (ht : exec i s = .next t) (hs : P s) : P t := by
  rcases exec_bitReader_cases hc ht with ⟨w, r, rfl, -, -⟩ | ⟨-, rfl⟩ | ⟨e, -, rfl⟩ | ⟨-, -, rfl⟩ | ⟨-, -, rfl⟩
  · exact h s r _ _ hs
  · exact h s _ _ s.cursors hs
  · exact h s s.res _ _ hs
  · exact h s s.res _ _ hs
  · exact h s s.res _ s.cursors hs

/-- A program that keeps the property at every write, when taking an error keeps it too. -/
theorem Keeps.stageKeeps {x : Cmd Unit} (h : Keeps P x) (hr : ∀ e u, P u → P (takeError .stage e u)) : StageKeeps P x :=
  h.weaken (fun _ hs => hs) (fun _ _ hu => hu) hr

theorem CommandsKeep.decode (h : CommandsKeep P) : StageKeeps P decodeCmd :=
  Meets.bind h.dirhdr fun _ => Meets.bind h.readPrefix fun _ => Meets.bind h.pct fun _ => Meets.bind h.setup fun _ => h.recon

theorem CommandsKeep.complete (h : CommandsKeep P) {x : Cmd Unit} {s t : State} (hx : StageKeeps P x) (hs : P s)
    (ht : complete .stage x s = .next t) : P t := by
  rcases Meets.complete hx hs ht with ⟨u, hu, rfl⟩ | ⟨e, u, hu, rfl⟩
  · exact h.succeeded u hu
  · exact hu

theorem CommandsKeep.exec (h : CommandsKeep P) {i : Instr} {s t : State} (hs : P s) (ht : exec i s = .next t) : P t := by
  cases hc : bitReaderCursor i with
  | some c => exact h.bitReader i c s t hc ht hs
  | none =>
    rcases stageCommand_forms hc with rfl | rfl | rfl | rfl | rfl | rfl | rfl
    · exact h.complete h.openFile hs ht
    · exact h.complete h.dirhdr hs ht
    · exact h.complete h.readPrefix hs ht
    · exact h.complete h.pct hs ht
    · exact h.complete h.setup hs ht
    · exact h.complete h.recon hs ht
    · exact h.complete h.decode hs ht

/-! ### Host actions -/

theorem issue_keeps (h : CommandsKeep P) {w : Word} {s t : State} (hs : P s) (ht : issue w s = .next t) : P t := by
  unfold issue at ht
  split at ht
  · exact h.exec hs ht
  · cases ht
    exact h.illegal s hs

theorem writeSrcLen_keeps (h : HostKeeps P) {s : State} (v : Word) (hs : P s) : P (s.writeSrcLen v) := by
  unfold State.writeSrcLen
  split
  · exact hs
  · next hv =>
    simp only [Bool.or_eq_true, decide_eq_true_eq, not_or, Bool.not_eq_true, Nat.not_lt] at hv
    exact h.srcLen s v hs hv.1 hv.2

theorem writeSrcCtl_keeps (h : HostKeeps P) {s : State} (v : Word) (hs : P s) : P (s.writeSrcCtl v) := by
  unfold State.writeSrcCtl
  split
  · exact h.enable s hs
  · exact h.disable s hs

theorem hostWriteReg_keeps (hh : HostKeeps P) (hc : CommandsKeep P) {no : Nat} {v : DWord} {s t : State} (hs : P s)
    (ht : hostWriteReg no v s = .next t) : P t := by
  unfold hostWriteReg at ht
  split at ht
  · exact issue_keeps hc hs ht
  all_goals cases ht
  · exact hh.arg0 s v hs
  · exact hh.arg1 s v hs
  · exact writeSrcLen_keeps hh _ hs
  · exact writeSrcCtl_keeps hh _ hs
  · exact hs

theorem hostWriteTable_keeps (hh : HostKeeps P) {space index : Nat} {v : DWord} {s t : State} (hs : P s)
    (ht : hostWriteTable space index v s = .next t) : P t := by
  unfold hostWriteTable at ht
  split at ht
  · cases ht; exact hs
  · split at ht
    · cases ht
    · next hi =>
      cases ht
      exact hh.byte s index _ hs (Nat.lt_of_not_le hi)

/-- A property that the host's writes and the commands keep is kept by every step (R76). -/
theorem step_keeps (hh : HostKeeps P) (hc : CommandsKeep P) {s t : State} (hs : P s) (ht : step s = .next t) : P t := by
  unfold step at ht
  split at ht
  · cases ht; exact hs
  · next a rest _ =>
    have hq := hh.queue s rest hs
    cases a with
    | writeReg no v => exact hostWriteReg_keeps hh hc hq ht
    | writeTable space index v => exact hostWriteTable_keeps hh hq ht
    | reset => cases ht; exact hh.reset _ hq

end Sys2Proof.Machine

/-! PROOF of O54 (R30, R60): each single write of a command or of the host is a write to a store, which keeps its canonical
form, or leaves the stores as they are. -/
namespace Sys2Proof.Machine

/-- A write to other fields leaves the stores as they are, so the hypothesis is the conclusion. -/
theorem dirhdr_writes_keep_stores : DirhdrKeeps StoresCanonical where
  start _ _ h :=
    have ⟨src, offt, _, _, last, log, map⟩ := h
    ⟨src, offt, Store.wf_nil, Store.wf_nil, last, log, map⟩
  made _ _ _ h := h
  moved _ _ h := h
  outSize _ _ h := h
  hasRaw _ _ h := h
  compEq _ _ h := h
  sels _ _ h := h
  frame _ f v h :=
    have ⟨src, offt, fh, pct, last, log, map⟩ := h
    ⟨src, offt, Store.wf_set f v fh, pct, last, log, map⟩
  extents _ _ h := h
  stage _ h := h

theorem putCode_keeps_stores (s : State) (j : Byte) (h : StoresCanonical s) : StoresCanonical (s.putCode j) :=
  have ⟨src, offt, fh, pct, last, log, map⟩ := h
  ⟨src, offt, fh, Store.wf_set _ j pct, last, log, map⟩

theorem setup_writes_keep_stores : SetupKeeps StoresCanonical where
  moved _ _ h := h
  carved _ _ _ _ _ h := h
  gw _ _ h := h
  gh _ _ h := h
  empty _ h :=
    have ⟨src, offt, fh, pct, last, log, map⟩ := h
    ⟨src, offt, fh, pct, Store.wf_clearBelow _ last, log, map⟩
  stage _ h := h

theorem cell_writes_keep_stores (k : Nat) : CellKeeps StoresCanonical k where
  moved _ _ _ _ _ h := h
  entry _ e h :=
    have ⟨src, offt, fh, pct, last, log, map⟩ := h
    ⟨src, offt, fh, pct, last, Store.wf_set _ e log, map⟩
  last _ j h :=
    have ⟨src, offt, fh, pct, last, log, map⟩ := h
    ⟨src, offt, fh, pct, Store.wf_set k (some j) last, log, map⟩
  record _ r h :=
    have ⟨src, offt, fh, pct, last, log, map⟩ := h
    ⟨src, offt, fh, pct, last, log, Store.wf_set _ r map⟩

theorem setOffset_keeps_stores (s : State) (i : Nat) (v : Word) (h : StoresCanonical s) : StoresCanonical (s.setOffset i v) :=
  have ⟨src, offt, fh, pct, last, log, map⟩ := h
  ⟨src, Store.wf_set i v offt, fh, pct, last, log, map⟩

theorem commands_keep_stores : CommandsKeep StoresCanonical where
  bitReader _ _ _ _ hc ht h := bitReader_keeps (fun _ _ _ _ h => h) hc ht h
  illegal _ h := h
  succeeded _ h := h
  openFile := (Keeps.openCmd (fun _ h => h) (fun _ _ h => h) setOffset_keeps_stores (fun _ h => h)).stageKeeps fun _ _ h => h
  dirhdr := (Keeps.dirhdrCmd dirhdr_writes_keep_stores).stageKeeps fun _ _ h => h
  readPrefix := (Keeps.prefixCmd (fun _ _ h => h) (fun _ _ h => h) (fun _ h _ _ => h)).stageKeeps fun _ _ h => h
  pct := (Keeps.pctCmd (fun _ _ h => h) putCode_keeps_stores (fun _ h => h)).stageKeeps fun _ _ h => h
  setup := (Keeps.setupCmd setup_writes_keep_stores).stageKeeps fun _ _ h => h
  recon := (Keeps.reconCmd cell_writes_keep_stores (fun _ h => h)).stageKeeps fun _ _ h => h

theorem host_keeps_stores : HostKeeps StoresCanonical where
  queue _ _ h := h
  arg0 _ _ h := h
  arg1 _ _ h := h
  srcLen _ _ h _ _ := h
  enable _ h := h
  disable _ h := h
  byte _ _ b h ha :=
    have ⟨src, rest⟩ := h
    ⟨Memory.wf_setByte b ha src, rest⟩
  reset _ _ := ⟨Memory.wf_nil _, Store.wf_nil, Store.wf_nil, Store.wf_nil, Store.wf_nil, Store.wf_nil, Store.wf_nil⟩

/-- Settles O54: the host's writes and the commands keep the canonical form. -/
theorem storesStayCanonical : Obligations.StoresStayCanonical :=
  fun _ _ h ht => step_keeps host_keeps_stores commands_keep_stores h ht

end Sys2Proof.Machine

/-! What PREFIX, PCT, SETUP and RECON meet: one rule per stage command, from what holds when its prerequisite does
(44_cell_reconstructor.md, 43_pixel_code_table.md). -/
namespace Sys2Proof.Machine

variable {P₀ P : State → Prop} {Q : Unit → State → Prop} {E : ErrorKind → State → Prop}

/-! ### Shared pieces -/

/-- The prerequisite of a stage command: the stage reached is `g`, with no failure since (R200, R190, R201, R207). -/
def State.readyAt (s : State) (g : Stage) : Prop := s.stage = g ∧ s.failed = false

theorem stageReady_iff {g : Stage} {s : State} : stageReady g s = true ↔ s.readyAt g := by
  simp [stageReady, State.readyAt]

/-- A command that keeps `P` when it ends, before another. -/
theorem Meets.andThen {α β : Type} {x : Cmd α} {f : α → Cmd β} {R : β → State → Prop} (hx : Meets P x (fun _ => P) E)
    (hf : ∀ a, Meets P (f a) R E) : Meets P (x >>= f) R E :=
  Meets.bind hx hf

/-- A command that may look at the state first. -/
theorem withState_meets {α : Type} {R : α → State → Prop} {f : State → Cmd α} (h : ∀ s, P s → Meets P (f s) R E) :
    Meets P (withState f) R E := fun s hs => h s hs s hs

theorem onlyIf_meets {p : Bool} {x : Cmd Unit} (h : Meets P x (fun _ => P) E) : Meets P (onlyIf p x) (fun _ => P) E := by
  cases p
  · exact Meets.pure fun _ hs => hs
  · exact h

theorem forEach_meets {γ : Type} {body : γ → Cmd Unit} (xs : List γ) (h : ∀ x ∈ xs, Meets P (body x) (fun _ => P) E) :
    Meets P (forEach xs body) (fun _ => P) E := by
  induction xs with
  | nil => exact fun s hs => hs
  | cons x xs ih => exact Meets.andThen (h x (by simp)) fun _ => ih fun y hy => h y (by simp [hy])

/-- The check a stage command starts with. -/
theorem requireStage_meets {g : Stage} (hseq : ∀ s, P₀ s → ¬ s.readyAt g → E .sequenceError s)
    (hready : ∀ s, P₀ s → s.readyAt g → P s) :
    Meets P₀ (raiseWhen (fun s => !stageReady g s) .sequenceError) (fun _ => P) E := by
  refine Meets.raiseWhen (fun s hs hr => hready s hs ?_) (fun s hs hr => hseq s hs ?_)
  · simpa [stageReady_iff] using hr
  · simpa [← stageReady_iff] using hr

theorem failIfErr_meets {c : CursorIx} (htrunc : ∀ s, P s → E .truncatedStream s) : Meets P (failIfErr c) (fun _ => P) E :=
  Meets.raiseWhen (fun _ hs _ => hs) fun s hs _ => htrunc s hs

/-- A read that keeps `P`, or ends the command with TruncatedStream in a state with `P`. -/
theorem readOrFail_meets {c : CursorIx} {w : Nat} (hm : ∀ s, P s → P (s.setCursor c ((s.cursor c).advance w)))
    (htrunc : ∀ s, P s → E .truncatedStream s) : Meets P (readOrFail c w) (fun _ => P) E :=
  Meets.andThen (fun s hs => hm s hs) fun _ => Meets.andThen (failIfErr_meets htrunc) fun _ => Meets.pure fun _ hs => hs

theorem readInto_meets {w : Nat} {f : Nat → State → State}
    (hm : ∀ s n, P s → P (s.setCursor cMain ((s.cursor cMain).advance n))) (hf : ∀ v s, P s → P (f v s))
    (htrunc : ∀ s, P s → E .truncatedStream s) : Meets P (readInto w f) (fun _ => P) E :=
  Meets.andThen (readOrFail_meets (fun s => hm s w) htrunc) fun v => Meets.write fun s => hf v s

/-! ### PREFIX and PCT -/

theorem prefixCmd_meets (hseq : ∀ s, P₀ s → ¬ s.readyAt .hdr → E .sequenceError s) (hready : ∀ s, P₀ s → s.readyAt .hdr → P s)
    (hm : ∀ s n, P s → P (s.setCursor cMain ((s.cursor cMain).advance n))) (hz : ∀ s v, P s → P { s with sizes := v })
    (htrunc : ∀ s, P s → E .truncatedStream s) (hdone : ∀ s, P s → Q () { s with stage := .prefixed }) :
    Meets P₀ prefixCmd Q E := by
  refine Meets.bind (requireStage_meets hseq hready) fun _ => ?_
  refine Meets.andThen (withState_meets fun s _ => onlyIf_meets (readInto_meets hm (fun _ s => hz s _) htrunc)) fun _ => ?_
  refine Meets.andThen (readInto_meets hm (fun _ s => hz s _) htrunc) fun _ => ?_
  refine Meets.andThen (withState_meets fun s _ => onlyIf_meets ?_) fun _ => Meets.write hdone
  exact Meets.andThen (readInto_meets hm (fun _ s => hz s _) htrunc) fun _ => readInto_meets hm (fun _ s => hz s _) htrunc

/-- PCT, by an invariant of its loop: `I j` holds before bit `j` is read. -/
theorem pctCmd_meets {I : Nat → State → Prop} (hseq : ∀ s, P₀ s → ¬ s.readyAt .prefixed → E .sequenceError s)
    (hready : ∀ s, P₀ s → s.readyAt .prefixed → I 0 s)
    (hm : ∀ j s, I j s → I j (s.setCursor cMain ((s.cursor cMain).advance 1)))
    (hput : ∀ j s, j < 256 → I j s → I (j + 1) (s.putCode (BitVec.ofNat 8 j))) (hskip : ∀ j s, I j s → I (j + 1) s)
    (htrunc : ∀ j s, I j s → E .truncatedStream s) (hdone : ∀ s, I 256 s → Q () { s with stage := .pct }) :
    Meets P₀ pctCmd Q E := by
  have hbody : ∀ j, j < 256 → Meets (I j) (readPresence j) (fun _ => I (j + 1)) E := fun j hj => by
    refine Meets.andThen (readOrFail_meets (hm j) (htrunc j)) fun b => Meets.write fun s hs => ?_
    split
    · exact hput j s hj hs
    · exact hskip j s hs
  have hloop : ∀ n, n ≤ 256 → Meets (I 0) (forBelow n readPresence) (fun _ => I n) E := fun n hn =>
    Meets.forBelow n fun j hj => hbody j (Nat.lt_of_lt_of_le hj hn)
  unfold pctCmd
  generalize hn : (256 : Nat) = n at hdone ⊢
  exact Meets.bind (requireStage_meets hseq hready) fun _ => Meets.bind (hloop n hn.ge) fun _ => Meets.write hdone

/-! ### SETUP -/

/-- What SETUP does with the cursors keeps the property: a sub-stream carved from cursor 0, and the rest of it (R201). -/
structure CarvesKeep (P : State → Prop) : Prop where
  carved : ∀ s (d : CursorIx) n, 1 ≤ d.val → d.val ≤ 4 → P s →
    P ((s.setCursor cMain ((s.cursor cMain).advance n)).setCursor d ((s.cursor cMain).part n))
  rest : ∀ s, P s → P (s.setCursor cInc (s.cursor cMain).rest)

/-- The grid registers are the grid of the extents (R203). -/
def State.sizeGrid (s : State) : State :=
  { s with gw := cellCount s.extents.xmin s.extents.xmax, gh := cellCount s.extents.ymin s.extents.ymax }

theorem carve_meets (h : CarvesKeep P) {d : CursorIx} {n : State → Nat} (h1 : 1 ≤ d.val) (h4 : d.val ≤ 4)
    (htrunc : ∀ s, P s → E .truncatedStream s) : Meets P (carve d n) (fun _ => P) E :=
  Meets.andThen (withState_meets fun _ _ => Meets.write fun s hs => h.carved s d _ h1 h4 hs) fun _ => failIfErr_meets htrunc

theorem setupCmd_meets (hseq : ∀ s, P₀ s → ¬ s.readyAt .pct → E .sequenceError s) (hready : ∀ s, P₀ s → s.readyAt .pct → P s)
    (hc : CarvesKeep P) (htrunc : ∀ s, P s → E .truncatedStream s) (hfull : ∀ s, P s → E .capacityExceeded s.sizeGrid)
    (hdone : ∀ s, P s → s.sizeGrid.cells ≤ s.params.maxCells → Q () { s.sizeGrid.emptyResults with stage := .setup }) :
    Meets P₀ setupCmd Q E := by
  refine Meets.bind (requireStage_meets hseq hready) fun _ => ?_
  refine Meets.andThen (carve_meets hc (by decide) (by decide) htrunc) fun _ => ?_
  refine Meets.andThen (carve_meets hc (by decide) (by decide) htrunc) fun _ => ?_
  refine Meets.andThen (carve_meets hc (by decide) (by decide) htrunc) fun _ => ?_
  refine Meets.andThen (carve_meets hc (by decide) (by decide) htrunc) fun _ => ?_
  refine Meets.andThen (Meets.write fun s hs => hc.rest s hs) fun _ => ?_
  refine Meets.bind (Q := fun _ u => ∃ s, P s ∧ u = { s with gw := cellCount s.extents.xmin s.extents.xmax })
    (Meets.write fun s hs => ⟨s, hs, rfl⟩) fun _ => ?_
  refine Meets.bind (Q := fun _ u => ∃ s, P s ∧ u = s.sizeGrid)
    (Meets.write fun _ ⟨s, hs, hu⟩ => ⟨s, hs, hu ▸ rfl⟩) fun _ => ?_
  refine Meets.bind (Q := fun _ u => ∃ s, P s ∧ u = s.sizeGrid ∧ s.sizeGrid.cells ≤ s.params.maxCells)
    (Meets.raiseWhen ?_ fun _ ⟨s, hs, hu⟩ _ => hu ▸ hfull s hs) fun _ => ?_
  · rintro _ ⟨s, hs, rfl⟩ hcap
    exact ⟨s, hs, rfl, Nat.le_of_not_lt (of_decide_eq_false hcap)⟩
  refine Meets.bind (Q := fun _ u => ∃ s, P s ∧ u = s.sizeGrid.emptyResults ∧ s.sizeGrid.cells ≤ s.params.maxCells)
    (Meets.write fun _ ⟨s, hs, hu, hcap⟩ => ⟨s, hs, hu ▸ rfl, hcap⟩) fun _ => ?_
  exact Meets.write fun _ ⟨s, hs, hu, hcap⟩ => hu ▸ hdone s hs hcap

/-! ### RECON -/

theorem reconCmd_meets (hseq : ∀ s, P₀ s → ¬ s.readyAt .setup → E .sequenceError s) (hready : ∀ s, P₀ s → s.readyAt .setup → P s)
    (hcell : ∀ f k, Meets P (cellStep f k) (fun _ => P) E) (hdone : ∀ s, P s → Q () { s with stage := .done }) :
    Meets P₀ reconCmd Q E := by
  refine Meets.bind (requireStage_meets hseq hready) fun _ => ?_
  refine Meets.andThen (withState_meets fun s _ => ?_) fun _ => Meets.write hdone
  refine Meets.forBelow (I := fun _ => P) _ fun f _ => withState_meets fun t _ => ?_
  exact forEach_meets _ fun k _ => hcell f k

/-- RECON, by a property that every write of a cell step keeps. -/
theorem reconCmd_meets_simple (hseq : ∀ s, P₀ s → ¬ s.readyAt .setup → E .sequenceError s)
    (hready : ∀ s, P₀ s → s.readyAt .setup → P s) (hcell : ∀ k, CellKeeps P k) (herr : ∀ e s, P s → E e s)
    (hdone : ∀ s, P s → Q () { s with stage := .done }) : Meets P₀ reconCmd Q E :=
  reconCmd_meets hseq hready (fun _ k => (Keeps.cellStep (hcell k)).weaken (fun _ h => h) (fun _ _ h => h) herr) hdone

end Sys2Proof.Machine

/-! PROOF of O55 (R24, R31, R61): every cursor a command leaves is one of before, moved inside its range, or made inside the
range of another or inside the stream, and the stream is inside SRC. -/
namespace Sys2Proof.Machine

variable {cap : Nat} {k : Cursor}

/-! ### The cursor operations stay in range -/

theorem cursorInRange_empty : CursorInRange cap Cursor.empty := by simp [CursorInRange, Cursor.empty]

theorem cursorInRange_failed : CursorInRange cap Cursor.failed := by simp [CursorInRange, Cursor.failed]

theorem cursorInRange_advance (n : Nat) (h : CursorInRange cap k) : CursorInRange cap (k.advance n) := by
  cases hb : k.blocks n with
  | false =>
    refine ⟨?_, by simpa using h.2⟩
    rw [Cursor.advance_pos hb, Cursor.advance_len]
    exact (Cursor.blocks_eq_false.1 hb).2
  | true => rwa [Cursor.advance_blocked hb]

/-- A cursor made inside the range of `k`, from its position on, is in range (R73); a sum that wraps only gets smaller. -/
theorem cursorInRange_inside {n : DWord} {e : Bool} (h : CursorInRange cap k)
    (hn : k.pos.toNat + n.toNat ≤ k.len.toNat) : CursorInRange cap ⟨k.base + k.pos, 0, n, e⟩ := by
  obtain ⟨-, hend⟩ := h
  refine ⟨Nat.zero_le _, ?_⟩
  simp only [BitVec.toNat_add]
  omega

theorem cursorInRange_rest (h : CursorInRange cap k) : CursorInRange cap k.rest :=
  cursorInRange_inside h (by rw [BitVec.toNat_sub_of_le h.1]; have := h.1; omega)

theorem cursorInRange_part (n : Nat) (h : CursorInRange cap k) : CursorInRange cap (k.part n) := by
  unfold Cursor.part
  split
  · exact cursorInRange_failed
  · next hb =>
    obtain ⟨-, hn⟩ := Cursor.blocks_eq_false.1 (Bool.eq_false_of_not_eq_true hb)
    have hlen := k.len.isLt
    exact cursorInRange_inside h (by rw [BitVec.toNat_ofNat, Nat.mod_eq_of_lt (by omega)]; exact hn)

theorem cursorInRange_overBytes {l : Nat} (hl : l ≤ cap) (a n : Nat) :
    CursorInRange cap (Cursor.overBytes l a n) := by
  unfold Cursor.overBytes
  split
  · exact cursorInRange_failed
  · refine ⟨Nat.zero_le _, ?_⟩
    simp only [BitVec.toNat_ofNat]
    omega

/-! ### The writes of a state -/

theorem setCursor_keeps_range {s : State} (c : CursorIx) (h : CursorsInRange s) (hk : CursorInRange s.params.srcCap k) :
    CursorsInRange (s.setCursor c k) := by
  refine ⟨h.1, fun d => ?_⟩
  rw [State.cursor_setCursor]
  split
  · exact hk
  · exact h.2 d

theorem advance_keeps_range (s : State) (c : CursorIx) (n : Nat) (h : CursorsInRange s) :
    CursorsInRange (s.setCursor c ((s.cursor c).advance n)) :=
  setCursor_keeps_range c h (cursorInRange_advance n (h.2 c))

theorem overBytes_keeps_range (s : State) (c : CursorIx) (a n : Nat) (h : CursorsInRange s) :
    CursorsInRange (s.setCursor c (Cursor.overBytes s.srcLen.toNat a n)) :=
  setCursor_keeps_range c h (cursorInRange_overBytes h.1 a n)

theorem rest_keeps_range (s : State) (d c : CursorIx) (h : CursorsInRange s) :
    CursorsInRange (s.setCursor d (s.cursor c).rest) :=
  setCursor_keeps_range d h (cursorInRange_rest (h.2 c))

theorem startDirection_keeps_range (s : State) (i : Nat) (h : CursorsInRange s) : CursorsInRange (s.startDirection i) := by
  have hclear : ∀ (t : State) (c : CursorIx), CursorsInRange t → CursorsInRange (t.setCursor c Cursor.empty) :=
    fun t c ht => setCursor_keeps_range c ht cursorInRange_empty
  exact hclear _ 5 (hclear _ 4 (hclear _ 3 (hclear _ 2 (hclear s 1 h))))

theorem dirhdr_writes_keep_range : DirhdrKeeps CursorsInRange where
  start := startDirection_keeps_range
  made s a n h := overBytes_keeps_range s cMain a n h
  moved s n h := advance_keeps_range s cMain n h
  outSize _ _ h := h
  hasRaw _ _ h := h
  compEq _ _ h := h
  sels _ _ h := h
  frame _ _ _ h := h
  extents _ _ h := h
  stage _ h := h

theorem carves_keep_range : CarvesKeep CursorsInRange where
  carved s d n _ _ h :=
    setCursor_keeps_range d (advance_keeps_range s cMain n h) (cursorInRange_part n (h.2 cMain))
  rest s h := rest_keeps_range s cInc cMain h

theorem cell_writes_keep_range (k : Nat) : CellKeeps CursorsInRange k where
  moved s c n _ _ h := advance_keeps_range s c n h
  entry _ _ h := h
  last _ _ h := h
  record _ _ h := h

theorem bitReader_keeps_range {i : Instr} {c : CursorIx} {s t : State} (hc : bitReaderCursor i = some c)
    (ht : exec i s = .next t) (h : CursorsInRange s) : CursorsInRange t := by
  rcases exec_bitReader_cases hc ht with ⟨w, r, rfl, -, -⟩ | ⟨-, rfl⟩ | ⟨e, -, rfl⟩ | ⟨-, -, rfl⟩ | ⟨-, -, rfl⟩
  · exact advance_keeps_range s c w h
  · exact h
  · exact rest_keeps_range s c e h
  · exact overBytes_keeps_range s c _ _ h
  · exact h

theorem commands_keep_range : CommandsKeep CursorsInRange where
  bitReader _ _ _ _ := bitReader_keeps_range
  illegal _ h := h
  succeeded _ h := h
  openFile := (Keeps.openCmd (fun _ h => h) (fun _ _ h => h) (fun _ _ _ h => h) (fun _ h => h)).stageKeeps fun _ _ h => h
  dirhdr := (Keeps.dirhdrCmd dirhdr_writes_keep_range).stageKeeps fun _ _ h => h
  readPrefix := (Keeps.prefixCmd (advance_keeps_range · cMain) (fun _ _ h => h) (fun _ h _ _ => h)).stageKeeps fun _ _ h => h
  pct := (Keeps.pctCmd (advance_keeps_range · cMain) (fun _ _ h => h) (fun _ h => h)).stageKeeps fun _ _ h => h
  setup := setupCmd_meets (fun _ h _ => h) (fun _ h _ => h) carves_keep_range (fun _ h => h) (fun _ h => h) (fun _ h _ => h)
  recon := (Keeps.reconCmd cell_writes_keep_range (fun _ h => h)).stageKeeps fun _ _ h => h

theorem host_keeps_range : HostKeeps CursorsInRange where
  queue _ _ h := h
  arg0 _ _ h := h
  arg1 _ _ h := h
  srcLen _ _ h _ hv := ⟨hv, h.2⟩
  enable _ h := h
  disable _ h := h
  byte _ _ _ h _ := h
  reset s _ := by
    refine ⟨Nat.zero_le _, fun c => ?_⟩
    have hc : (hostReset s).cursor c = Cursor.empty := by simp [State.cursor, hostReset, State.resetWith]
    exact hc ▸ cursorInRange_empty

/-- Settles O55: the host's writes and the commands keep every cursor in range. -/
theorem cursorsStayInRange : Obligations.CursorsStayInRange :=
  fun _ _ h ht => step_keeps host_keeps_range commands_keep_range h ht

end Sys2Proof.Machine

/-! What a cell step of RECON, DIRHDR and OPEN meet: the rules of the commands with loops, from what their parts meet
(44_cell_reconstructor.md R210, 42_direction_header.md R160, 41_file_header.md R141). -/
namespace Sys2Proof.Machine

open Sys2Proof.Claims

variable {P₀ P A : State → Prop} {Q : Unit → State → Prop} {E : ErrorKind → State → Prop} {f k : Nat}

/-! ### The cell step -/

/-- Reading the four sub-streams keeps the property (R25). -/
abbrev StreamsKeep (P : State → Prop) : Prop :=
  ∀ s (c : CursorIx) n, 1 ≤ c.val → c.val ≤ 4 → P s → P (s.setCursor c ((s.cursor c).advance n))

theorem readStream_meets (hm : StreamsKeep P) (htrunc : ∀ s, P s → E .truncatedStream s) {c : CursorIx} {w : Nat}
    (h1 : 1 ≤ c.val) (h4 : c.val ≤ 4) : Meets P (readOrFail c w) (fun _ => P) E :=
  readOrFail_meets (fun s hs => hm s c w h1 h4 hs) htrunc

theorem readMask_meets (hm : StreamsKeep P) (htrunc : ∀ s, P s → E .truncatedStream s) (h : Option Word) :
    Meets P (readMask h) (fun _ => P) E := by
  cases h with
  | none => exact Meets.pure fun _ hs => hs
  | some j => exact Meets.andThen (readStream_meets hm htrunc (by decide) (by decide)) fun _ => Meets.pure fun _ hs => hs

theorem readRawUsage_meets (hm : StreamsKeep P) (htrunc : ∀ s, P s → E .truncatedStream s) :
    Meets P readRawUsage (fun _ => P) E := by
  refine withState_meets fun s _ => ?_
  cases s.hasRaw with
  | false => exact Meets.pure fun _ hs => hs
  | true => exact Meets.andThen (readStream_meets hm htrunc (by decide) (by decide)) fun _ => Meets.pure fun _ hs => hs

theorem readCodes_meets (hm : StreamsKeep P) (htrunc : ∀ s, P s → E .truncatedStream s)
    (hincr : ∀ s, P s → E .incrementalUnsupported s) (raw : Bool) (n : Nat) (p : List Byte) :
    Meets P (readCodes raw n p) (fun _ => P) E := by
  induction n generalizing p with
  | zero => exact Meets.pure fun _ hs => hs
  | succ n ih =>
    cases raw with
    | false => exact hincr
    | true =>
      refine Meets.andThen (readStream_meets hm htrunc (by decide) (by decide)) fun v => ?_
      split
      · exact Meets.pure fun _ hs => hs
      · exact ih _

/-- The cell step, from its two ways to append. -/
theorem cellStep_meets (hm : StreamsKeep P) (htrunc : ∀ s, P s → E .truncatedStream s)
    (hincr : ∀ s, P s → E .incrementalUnsupported s) (hnew : ∀ e, Meets P (recordEntry f k e) (fun _ => P) E)
    (hequal : ∀ j, Meets P (mapAppend f k j true) (fun _ => P) E) : Meets P (cellStep f k) (fun _ => P) E := by
  have hdecode : ∀ h, Meets P (decodeCell f k h) (fun _ => P) E := fun h =>
    Meets.andThen (readMask_meets hm htrunc h) fun _ => Meets.andThen (readRawUsage_meets hm htrunc) fun raw =>
      Meets.andThen (readCodes_meets hm htrunc hincr raw _ _) fun _ => withState_meets fun _ _ => hnew _
  refine withState_meets fun s _ => ?_
  split
  · refine Meets.andThen (readStream_meets hm htrunc (by decide) (by decide)) fun b => ?_
    split
    · exact hequal _
    · exact hdecode _
  · exact hdecode _

/-! ### DIRHDR -/

/-- What reading the 62-bit direction header writes keeps the property (R163). -/
structure HeaderReadsKeep (P : State → Prop) : Prop where
  moved : ∀ s n, P s → P (s.setCursor cMain ((s.cursor cMain).advance n))
  outSize : ∀ s v, P s → P { s with outSize := v }
  hasRaw : ∀ s v, P s → P { s with hasRaw := v }
  compEq : ∀ s v, P s → P { s with compEq := v }
  sels : ∀ s v, P s → P { s with sels := v }

theorem readDirectionHeader_meets (h : HeaderReadsKeep P) (htrunc : ∀ s, P s → E .truncatedStream s) :
    Meets P readDirectionHeader (fun _ => P) E := by
  refine Meets.andThen (readInto_meets h.moved (fun _ s hs => h.outSize s _ hs) htrunc) fun _ => ?_
  refine Meets.andThen (readInto_meets h.moved (fun _ s hs => h.hasRaw s _ hs) htrunc) fun _ => ?_
  refine Meets.andThen (readInto_meets h.moved (fun _ s hs => h.compEq s _ hs) htrunc) fun _ => ?_
  refine Meets.andThen (readInto_meets h.moved (fun _ s hs => h.sels s _ hs) htrunc) fun _ => ?_
  refine Meets.andThen (readInto_meets h.moved (fun _ s hs => h.sels s _ hs) htrunc) fun _ => ?_
  refine Meets.andThen (readInto_meets h.moved (fun _ s hs => h.sels s _ hs) htrunc) fun _ => ?_
  refine Meets.andThen (readInto_meets h.moved (fun _ s hs => h.sels s _ hs) htrunc) fun _ => ?_
  refine Meets.andThen (readInto_meets h.moved (fun _ s hs => h.sels s _ hs) htrunc) fun _ => ?_
  refine Meets.andThen (readInto_meets h.moved (fun _ s hs => h.sels s _ hs) htrunc) fun _ => ?_
  exact readInto_meets h.moved (fun _ s hs => h.sels s _ hs) htrunc

/-- Reading a frame header, by a property `P` of the states in which FH[f] is not finished: the last write gives it its
extents (R164). -/
theorem readFrameHeader_meets (hm : ∀ s n, P s → P (s.setCursor cMain ((s.cursor cMain).advance n)))
    (hf : ∀ s h, P s → P (s.setFrame f h)) (htrunc : ∀ s, P s → E .truncatedStream s)
    (hdone : ∀ s, P s → Q () (s.setFrame f (frameExtents (s.frame f)))) : Meets P (readFrameHeader f) Q E := by
  have hfield : ∀ w g, Meets P (readFrameField f w g) (fun _ => P) E := fun w g =>
    readInto_meets hm (fun _ s hs => hf s _ hs) htrunc
  refine withState_meets fun s _ => ?_
  refine Meets.andThen (hfield _ _) fun _ => Meets.andThen (hfield _ _) fun _ => Meets.andThen (hfield _ _) fun _ => ?_
  refine Meets.andThen (hfield _ _) fun _ => Meets.andThen (hfield _ _) fun _ => Meets.andThen (hfield _ _) fun _ => ?_
  exact Meets.andThen (hfield _ _) fun _ => Meets.andThen (hfield _ _) fun _ => Meets.write hdone

theorem skipOptional_meets (hm : ∀ s n, P s → P (s.setCursor cMain ((s.cursor cMain).advance n)))
    (htrunc : ∀ s, P s → E .truncatedStream s) : Meets P (skipOptional f) (fun _ => P) E := by
  refine withState_meets fun s _ => ?_
  split
  · exact Meets.pure fun _ hs => hs
  · refine Meets.andThen (Meets.write fun s hs => hm s _ hs) fun _ => ?_
    exact Meets.andThen (Meets.write fun s hs => hm s _ hs) fun _ => failIfErr_meets htrunc

/-- The state in which DIRHDR begins to read: the direction cleared and its cursor open (R160 to R162). -/
def State.beginDirection (s : State) : State :=
  (s.startDirection s.arg0.toNat).setCursor cMain (Cursor.overBytes s.srcLen.toNat (s.offset s.arg0.toNat).toNat
    ((s.offset (s.arg0.toNat + 1)).toNat - (s.offset s.arg0.toNat).toNat))

/-- DIRHDR, by an invariant of its frame loop: `I f` holds before the header of frame `f` of the `n` frames is read. -/
theorem dirhdrCmd_meets {I : Nat → State → Prop} {n : Nat} (hidle : ∀ s, P₀ s → s.stage = .idle → E .sequenceError s)
    (hindex : ∀ s, P₀ s → s.stage ≠ .idle → s.header.dirCnt.toNat ≤ s.arg0.toNat → E .badIndex s)
    (hbegin : ∀ s, P₀ s → directionSelected s → A s.beginDirection) (hheader : Meets A readDirectionHeader (fun _ => I 0) E)
    (hn : ∀ i s, I i s → s.header.fpd.toNat = n) (hframe : ∀ f, f < n → Meets (I f) (readFrameHeader f) (fun _ => I (f + 1)) E)
    (hskip : ∀ f, Meets (I n) (skipOptional f) (fun _ => I n) E)
    (hdone : ∀ s, I n s → Q () { s with extents := s.unionExtents, stage := .hdr }) : Meets P₀ dirhdrCmd Q E := by
  refine Meets.bind (Q := fun _ s => P₀ s ∧ s.stage ≠ .idle)
    (Meets.raiseWhen (fun s hs hr => ⟨hs, of_decide_eq_false hr⟩) fun s hs hr => hidle s hs (of_decide_eq_true hr)) fun _ => ?_
  refine Meets.bind (Q := fun _ s => P₀ s ∧ directionSelected s)
    (Meets.raiseWhen (fun s hs hr => ⟨hs.1, hs.2, Nat.lt_of_not_le (of_decide_eq_false hr)⟩)
      fun s hs hr => hindex s hs.1 hs.2 (of_decide_eq_true hr)) fun _ => ?_
  refine Meets.bind (Q := fun _ t => ∃ s, P₀ s ∧ directionSelected s ∧ t = s.startDirection s.arg0.toNat)
    (Meets.write fun s hs => ⟨s, hs.1, hs.2, rfl⟩) fun _ => ?_
  refine Meets.bind (Q := fun _ => A) ?_ fun _ => ?_
  · rintro _ ⟨s, hs, hd, rfl⟩
    exact hbegin s hs hd
  refine Meets.bind hheader fun _ => ?_
  refine Meets.bind (Q := fun _ => I n) (withState_meets fun s hs => ?_) fun _ => ?_
  · rw [hn 0 s hs]
    exact Meets.forBelow n hframe
  refine Meets.andThen (withState_meets fun s _ => Meets.forBelow (I := fun _ => I n) _ fun f _ => hskip f) fun _ => ?_
  exact Meets.bind (Q := fun _ u => ∃ s, I n s ∧ u = { s with extents := s.unionExtents })
    (Meets.write fun s hs => ⟨s, hs, rfl⟩) fun _ => Meets.write fun _ ⟨s, hs, hu⟩ => hu ▸ hdone s hs

/-- DIRHDR, by a property that every write after its prerequisites keeps. -/
theorem dirhdrCmd_meets_simple (hidle : ∀ s, P₀ s → s.stage = .idle → E .sequenceError s)
    (hindex : ∀ s, P₀ s → s.stage ≠ .idle → s.header.dirCnt.toNat ≤ s.arg0.toNat → E .badIndex s)
    (hbegin : ∀ s, P₀ s → directionSelected s → A s.beginDirection) (hr : HeaderReadsKeep A)
    (hf : ∀ s f h, f < s.header.fpd.toNat → A s → A (s.setFrame f h)) (htrunc : ∀ s, A s → E .truncatedStream s)
    (hdone : ∀ s, A s → Q () { s with extents := s.unionExtents, stage := .hdr }) : Meets P₀ dirhdrCmd Q E := fun s₀ h₀ => by
  have hr' : HeaderReadsKeep fun u => u.header = s₀.header ∧ A u :=
    ⟨fun s n h => ⟨h.1, hr.moved s n h.2⟩, fun s v h => ⟨h.1, hr.outSize s v h.2⟩, fun s v h => ⟨h.1, hr.hasRaw s v h.2⟩,
      fun s v h => ⟨h.1, hr.compEq s v h.2⟩, fun s v h => ⟨h.1, hr.sels s v h.2⟩⟩
  refine dirhdrCmd_meets (P₀ := fun s => s = s₀) (A := fun u => u.header = s₀.header ∧ A u)
    (I := fun _ u => u.header = s₀.header ∧ A u) (n := s₀.header.fpd.toNat) (fun s hs => hidle s (hs ▸ h₀))
    (fun s hs => hindex s (hs ▸ h₀)) (fun s hs hd => ⟨hs ▸ rfl, hbegin s (hs ▸ h₀) hd⟩)
    (readDirectionHeader_meets hr' fun s h => htrunc s h.2) (fun _ s h => by rw [h.1]) (fun f hlt => ?_) (fun f => ?_)
    (fun s h => hdone s h.2) s₀ rfl
  · have hf' : ∀ s v, (s.header = s₀.header ∧ A s) → (s.setFrame f v).header = s₀.header ∧ A (s.setFrame f v) := fun s v h =>
      ⟨h.1, hf s f v (h.1.symm ▸ hlt) h.2⟩
    exact readFrameHeader_meets hr'.moved hf' (fun s h => htrunc s h.2) fun s h => hf' s _ h
  · exact skipOptional_meets hr'.moved fun s h => htrunc s h.2

/-! ### OPEN -/

theorem need_meets {a n : Nat} (htrunc : ∀ s, P s → E .truncatedStream s) : Meets P (need a n) (fun _ => P) E :=
  Meets.raiseWhen (fun _ hs _ => hs) fun s hs _ => htrunc s hs

theorem putHeader_meets {g : Memory → FileHeader → FileHeader} (hh : ∀ s h, P s → P { s with header := h }) :
    Meets P (putHeader g) (fun _ => P) E :=
  Meets.write fun s hs => hh s _ hs

theorem checkOffsets_meets {s : State} (horder : E .invalidOffsetTable s) (n : Nat) :
    Meets (fun t => t = s) (forBelow n checkOffset)
      (fun _ t => t = s ∧ ∀ i, i < n → (s.offset i).toNat < (s.offset (i + 1)).toNat) E := by
  have hloop := Meets.forBelow (E := E) (body := checkOffset)
    (I := fun j t => t = s ∧ ∀ i, i < j → (s.offset i).toNat < (s.offset (i + 1)).toNat) n fun j _ => ?_
  · exact hloop.weaken (fun t ht => ⟨ht, fun i hi => absurd hi (Nat.not_lt_zero i)⟩) (fun _ _ h => h) fun _ _ h => h
  · refine Meets.raiseWhen (fun t ht hlt => ⟨ht.1, fun i hi => ?_⟩) fun t ht _ => ht.1 ▸ horder
    obtain ⟨rfl, hord⟩ := ht
    rcases Nat.lt_succ_iff_lt_or_eq.1 hi with hi | rfl
    · exact hord i hi
    · exact Nat.lt_of_not_le (of_decide_eq_false hlt)

/-- OPEN, by a property `A` that its writes of header registers and offsets keep. -/
theorem openCmd_meets (hvalid : ∀ s, P₀ s → s.srcValid = true → A s.release)
    (hinvalid : ∀ s, P₀ s → s.srcValid = false → E .sourceUnavailable s.release) (hh : ∀ s h, A s → A { s with header := h })
    (ho : ∀ s i v, A s → A (s.setOffset i v)) (herr : ∀ e s, isDataError e = true → A s → E e s)
    (hdone : ∀ s, A s → s.offset s.header.dirCnt.toNat = s.srcLen →
      (∀ i, i < s.header.dirCnt.toNat → (s.offset i).toNat < (s.offset (i + 1)).toNat) → Q () { s with stage := .opened }) :
    Meets P₀ openCmd Q E := by
  have hneed : ∀ a n, Meets A (need a n) (fun _ => A) E := fun a n => need_meets fun s hs => herr _ s rfl hs
  have hformat : ∀ p, Meets A (raiseWhen p .malformedHeader) (fun _ => A) E := fun p =>
    Meets.raiseWhen (fun _ hs _ => hs) fun s hs _ => herr _ s rfl hs
  refine Meets.bind (Q := fun _ t => ∃ s, P₀ s ∧ t = s.release) (Meets.write fun s hs => ⟨s, hs, rfl⟩) fun _ => ?_
  refine Meets.bind (Q := fun _ => A) (Meets.raiseWhen ?_ ?_) fun _ => ?_
  · rintro _ ⟨s, hs, rfl⟩ hv
    exact hvalid s hs (by simpa using hv)
  · rintro _ ⟨s, hs, rfl⟩ hv
    exact hinvalid s hs (by simpa using hv)
  refine Meets.andThen (hneed _ _) fun _ => Meets.andThen (putHeader_meets hh) fun _ => ?_
  refine Meets.andThen (hformat _) fun _ => ?_
  refine Meets.andThen (hneed _ _) fun _ => Meets.andThen (putHeader_meets hh) fun _ => ?_
  refine Meets.andThen (hneed _ _) fun _ => Meets.andThen (putHeader_meets hh) fun _ => ?_
  refine Meets.andThen (hneed _ _) fun _ => Meets.andThen (putHeader_meets hh) fun _ => ?_
  refine Meets.andThen (hneed _ _) fun _ => Meets.andThen (putHeader_meets hh) fun _ => ?_
  refine Meets.andThen (hformat _) fun _ => ?_
  refine Meets.andThen (hneed _ _) fun _ => Meets.andThen (putHeader_meets hh) fun _ => ?_
  refine Meets.andThen (hneed _ _) fun _ => Meets.andThen (putHeader_meets hh) fun _ => ?_
  refine Meets.andThen (withState_meets fun s _ => Meets.forBelow (I := fun _ => A) _ fun i _ =>
    Meets.andThen (hneed _ _) fun _ => Meets.write fun s hs => ho s i _ hs) fun _ => ?_
  refine Meets.bind (Q := fun _ s => A s ∧ s.offset s.header.dirCnt.toNat = s.srcLen)
    (Meets.write fun s hs => ⟨ho s _ _ hs, Store.get_set_self ..⟩) fun _ => ?_
  refine Meets.bind (Q := fun _ s => (A s ∧ s.offset s.header.dirCnt.toNat = s.srcLen) ∧
      ∀ i, i < s.header.dirCnt.toNat → (s.offset i).toNat < (s.offset (i + 1)).toNat)
    (Meets.withState fun s hs => ?_) fun _ => ?_
  · exact (checkOffsets_meets (herr _ s rfl hs.1) _).weaken (fun _ ht => ht) (fun _ t ht => by
      obtain ⟨rfl, hord⟩ := ht
      exact ⟨hs, hord⟩) fun _ _ h => h
  · exact Meets.write fun s ⟨⟨hs, hlast⟩, hord⟩ => hdone s hs hlast hord

end Sys2Proof.Machine

/-! PROOF of O53 (R27, R28, R110, R252, R253): how each stage command ends. -/
namespace Sys2Proof.Machine

open Sys2Proof.Claims

/-- The two ways a stage command that ran from `s₀` can raise `e` in state `u`: if it may `start`, a data error at one of the
stages `kept`; if not, a command error with nothing changed (R252, R253). -/
def RaisedFrom (start : State → Prop) (kept : List Stage) (s₀ : State) (e : ErrorKind) (u : State) : Prop :=
  (isDataError e = true ∧ start s₀ ∧ u.stage ∈ kept) ∨ (isDataError e = false ∧ ¬ start s₀ ∧ u = s₀)

/-- How a stage command ends: at the stage it completes with FAILED = 0, or as `RaisedFrom` says (R253). -/
def StageEnds (start : State → Prop) (completed : Stage) (kept : List Stage) (x : Cmd Unit) : Prop :=
  ∀ s₀, Meets (fun s => s = s₀) x (fun _ u => start s₀ ∧ u.readyAt completed) (RaisedFrom start kept s₀)

variable {start : State → Prop} {completed g : Stage} {kept : List Stage} {x : Cmd Unit} {s₀ u : State} {e : ErrorKind}

theorem RaisedFrom.data (he : isDataError e = true) (h : start s₀ ∧ u.readyAt g) : RaisedFrom start [g] s₀ e u :=
  .inl ⟨he, h.1, List.mem_singleton.2 h.2.1⟩

theorem RaisedFrom.kept_mono {more : List Stage} (h : RaisedFrom start [g] s₀ e u) (hg : g ∈ more) :
    RaisedFrom start more s₀ e u :=
  h.imp_left fun ⟨he, hs, hk⟩ => ⟨he, hs, List.mem_singleton.1 hk ▸ hg⟩

theorem openCmd_ends : StageEnds (fun _ => True) .opened [.idle] openCmd := fun _ =>
  openCmd_meets (A := fun u => True ∧ u.readyAt .idle) (fun _ _ _ => ⟨trivial, rfl, rfl⟩)
    (fun _ _ _ => RaisedFrom.data rfl ⟨trivial, rfl, rfl⟩) (fun _ _ h => h) (fun _ _ _ h => h) (fun _ _ he h => RaisedFrom.data he h)
    fun _ h _ _ => ⟨trivial, rfl, h.2.2⟩

theorem dirhdrCmd_ends : StageEnds directionSelected .hdr [.opened] dirhdrCmd := fun s₀ =>
  dirhdrCmd_meets_simple (A := fun u => directionSelected s₀ ∧ u.readyAt .opened)
    (fun _ hs hidle => .inr ⟨rfl, fun hd => hd.1 (hs ▸ hidle), hs⟩)
    (fun _ hs _ hindex => .inr ⟨rfl, fun hd => Nat.not_lt.2 (hs ▸ hindex) hd.2, hs⟩) (fun _ hs hd => ⟨hs ▸ hd, rfl, rfl⟩)
    ⟨fun _ _ h => h, fun _ _ h => h, fun _ _ h => h, fun _ _ h => h, fun _ _ h => h⟩ (fun _ _ _ _ h => h)
    (fun _ h => RaisedFrom.data rfl h) fun _ h => ⟨h.1, rfl, h.2.2⟩

theorem prefixCmd_ends : StageEnds (·.readyAt .hdr) .prefixed [.hdr] prefixCmd := fun s₀ =>
  prefixCmd_meets (P := fun u => s₀.readyAt .hdr ∧ u.readyAt .hdr) (fun _ hs h => .inr ⟨rfl, hs ▸ h, hs⟩)
    (fun _ hs h => ⟨hs ▸ h, h⟩) (fun _ _ h => h) (fun _ _ h => h) (fun _ h => RaisedFrom.data rfl h) fun _ h => ⟨h.1, rfl, h.2.2⟩

theorem pctCmd_ends : StageEnds (·.readyAt .prefixed) .pct [.prefixed] pctCmd := fun s₀ =>
  pctCmd_meets (I := fun _ u => s₀.readyAt .prefixed ∧ u.readyAt .prefixed) (fun _ hs h => .inr ⟨rfl, hs ▸ h, hs⟩)
    (fun _ hs h => ⟨hs ▸ h, h⟩) (fun _ _ h => h) (fun _ _ _ h => h) (fun _ _ h => h) (fun _ _ h => RaisedFrom.data rfl h)
    fun _ h => ⟨h.1, rfl, h.2.2⟩

theorem setupCmd_ends : StageEnds (·.readyAt .pct) .setup [.pct] setupCmd := fun s₀ =>
  setupCmd_meets (P := fun u => s₀.readyAt .pct ∧ u.readyAt .pct) (fun _ hs h => .inr ⟨rfl, hs ▸ h, hs⟩)
    (fun _ hs h => ⟨hs ▸ h, h⟩) ⟨fun _ _ _ _ _ h => h, fun _ h => h⟩ (fun _ h => RaisedFrom.data rfl h)
    (fun _ h => RaisedFrom.data rfl h) fun _ h _ => ⟨h.1, rfl, h.2.2⟩

theorem reconCmd_ends : StageEnds (·.readyAt .setup) .done [.setup] reconCmd := fun s₀ => by
  refine reconCmd_meets (P := fun u => s₀.readyAt .setup ∧ u.readyAt .setup) (fun _ hs h => .inr ⟨rfl, hs ▸ h, hs⟩)
    (fun _ hs h => ⟨hs ▸ h, h⟩) (fun f k => ?_) fun _ h => ⟨h.1, rfl, h.2.2⟩
  have hfull : ∀ p, Meets (fun u => s₀.readyAt .setup ∧ u.readyAt .setup) (raiseWhen p .capacityExceeded)
      (fun _ u => s₀.readyAt .setup ∧ u.readyAt .setup) (RaisedFrom (·.readyAt .setup) [.setup] s₀) := fun p =>
    Meets.raiseWhen (fun _ h _ => h) fun _ h _ => RaisedFrom.data rfl h
  refine cellStep_meets (fun _ _ _ _ _ h => h) (fun _ h => RaisedFrom.data rfl h) (fun _ h => RaisedFrom.data rfl h) (fun e => ?_)
    fun j => Meets.andThen (hfull _) fun _ => Meets.write fun _ h => h
  refine withState_meets fun s _ => Meets.andThen (Meets.andThen (hfull _) fun _ => Meets.write fun _ h => h) fun _ => ?_
  exact Meets.andThen (Meets.write fun _ h => h) fun _ => Meets.andThen (hfull _) fun _ => Meets.write fun _ h => h

/-! ### DECODE -/

/-- The stages a data error of DECODE leaves: those of its five stages (R225). -/
abbrev decodeKept : List Stage := [.opened, .hdr, .prefixed, .pct, .setup]

/-- A stage that the one before it made ready cannot raise a command error, so it ends as a part of a longer command. -/
theorem StageEnds.asPart (h : StageEnds (·.readyAt g) completed [g] x) (hg : g ∈ kept) :
    Meets (fun u => start s₀ ∧ u.readyAt g) x (fun _ u => start s₀ ∧ u.readyAt completed) (RaisedFrom start kept s₀) := by
  rintro s ⟨hs₀, hs⟩
  refine (h s).weaken (P' := fun t => t = s) (fun _ ht => ht) (fun _ _ hu => ⟨hs₀, hu.2⟩) (fun e u hu => ?_) s rfl
  rcases hu with ⟨he, -, hk⟩ | ⟨-, hn, -⟩
  · exact .inl ⟨he, hs₀, List.mem_singleton.1 hk ▸ hg⟩
  · exact absurd hs hn

theorem decodeCmd_ends : StageEnds directionSelected .done decodeKept decodeCmd := fun s₀ => by
  have hdirhdr := (dirhdrCmd_ends s₀).weaken (fun _ h => h) (fun _ _ h => h) fun _ _ h => h.kept_mono (more := decodeKept) (by decide)
  exact Meets.bind hdirhdr fun _ => Meets.bind (prefixCmd_ends.asPart (by decide)) fun _ =>
    Meets.bind (pctCmd_ends.asPart (by decide)) fun _ => Meets.bind (setupCmd_ends.asPart (by decide)) fun _ =>
      reconCmd_ends.asPart (by decide)

/-! ### The commands as a whole -/

/-- What a stage command that ends as said leaves (R28, R29, R253). -/
theorem StageEnds.complete (h : StageEnds start completed kept x) {s t : State} (ht : complete .stage x s = .next t) :
    (t.err = none → t.failed = false ∧ t.stage = completed) ∧
    (∀ e, t.err = some e → isDataError e = true → t.failed = true ∧ t.stage ∈ kept) ∧
    (∀ e, t.err = some e → isDataError e = false → t = { s with err := t.err }) := by
  rcases Meets.complete (h s) rfl ht with ⟨u, ⟨-, hu⟩, rfl⟩ | ⟨e, u, ⟨he, -, hk⟩ | ⟨he, -, rfl⟩, rfl⟩
  · exact ⟨fun _ => ⟨hu.2, hu.1⟩, fun e he => by simp at he, fun e he => by simp at he⟩
  · refine ⟨fun hn => by simp at hn, fun e' _ _ => ⟨by simp [he], hk⟩, fun e' hs hd => ?_⟩
    simp only [takeError_err, Option.some.injEq] at hs
    rw [← hs, he] at hd
    cases hd
  · refine ⟨fun hn => by simp at hn, fun e' hs hd => ?_, fun _ _ _ => by simp [takeError, he]⟩
    simp only [takeError_err, Option.some.injEq] at hs
    rw [← hs, he] at hd
    cases hd

theorem bitReader_leaves_stage {i : Instr} {c : CursorIx} {s t : State} (hc : bitReaderCursor i = some c)
    (ht : exec i s = .next t) : t.stage = s.stage ∧ t.failed = s.failed :=
  bitReader_keeps (P := fun u => u.stage = s.stage ∧ u.failed = s.failed) (fun _ _ _ _ h => h) hc ht ⟨rfl, rfl⟩

/-- Settles O53: each stage command ends as `StageEnds` says, with its line of `stageEnds`. -/
theorem failedFollowsStageErrors : Obligations.FailedFollowsStageErrors := by
  intro i s t ht
  refine ⟨fun hc => ?_, fun hc => ?_⟩
  · obtain ⟨c, hc⟩ := Option.ne_none_iff_exists'.1 hc
    exact bitReader_leaves_stage hc ht
  · rcases stageCommand_forms hc with rfl | rfl | rfl | rfl | rfl | rfl | rfl
    · exact ⟨.opened, [.idle], by decide, openCmd_ends.complete ht⟩
    · exact ⟨.hdr, [.opened], by decide, dirhdrCmd_ends.complete ht⟩
    · exact ⟨.prefixed, [.hdr], by decide, prefixCmd_ends.complete ht⟩
    · exact ⟨.pct, [.prefixed], by decide, pctCmd_ends.complete ht⟩
    · exact ⟨.setup, [.pct], by decide, setupCmd_ends.complete ht⟩
    · exact ⟨.done, [.setup], by decide, reconCmd_ends.complete ht⟩
    · exact ⟨.done, _, by decide, decodeCmd_ends.complete ht⟩

end Sys2Proof.Machine

/-! PROOF of O56 (R31, R32, R78, R145): OPEN ends with the table checked, and no later command writes OFFT, DIRCNT, SRCLEN or
SRC_VALID; the host can write SRCLEN only while no file is open. -/
namespace Sys2Proof.Machine

open Sys2Proof.Claims

/-- What `OffsetsOrdered` says while a file is open. -/
def OffsetsUp (s : State) : Prop :=
  s.srcValid = true ∧ (∀ i, i < s.header.dirCnt.toNat → (s.offset i).toNat < (s.offset (i + 1)).toNat)
    ∧ s.offset s.header.dirCnt.toNat = s.srcLen

theorem offsetsOrdered_of_idle {s : State} (h : s.stage = .idle) : OffsetsOrdered s := fun hn => absurd h hn

/-- A stage command that needs the stage `g` finds the table of an open file. -/
theorem OffsetsOrdered.up_of_ready {s : State} {g : Stage} (h : OffsetsOrdered s) (hr : s.readyAt g) (hg : g ≠ .idle) :
    OffsetsUp s := h (hr.1 ▸ hg)

theorem openCmd_keeps_offsets : StageKeeps OffsetsOrdered openCmd :=
  openCmd_meets (A := fun s => s.stage = .idle ∧ s.srcValid = true) (fun _ _ hv => ⟨rfl, hv⟩)
    (fun _ _ _ => offsetsOrdered_of_idle rfl) (fun _ _ h => h) (fun _ _ _ h => h) (fun _ _ _ h => offsetsOrdered_of_idle h.1)
    fun _ h hlast hord _ => ⟨h.2, hord, hlast⟩

theorem dirhdrCmd_keeps_offsets : StageKeeps OffsetsOrdered dirhdrCmd :=
  dirhdrCmd_meets_simple (A := OffsetsUp) (fun _ h _ => h) (fun _ h _ _ => h) (fun _ h hd => h hd.1)
    ⟨fun _ _ h => h, fun _ _ h => h, fun _ _ h => h, fun _ _ h => h, fun _ _ h => h⟩ (fun _ _ _ _ h => h) (fun _ h _ => h)
    fun _ h _ => h

theorem prefixCmd_keeps_offsets : StageKeeps OffsetsOrdered prefixCmd :=
  prefixCmd_meets (P := OffsetsUp) (fun _ h _ => h) (fun _ h hr => h.up_of_ready hr (by decide)) (fun _ _ h => h)
    (fun _ _ h => h) (fun _ h _ => h) fun _ h _ => h

theorem pctCmd_keeps_offsets : StageKeeps OffsetsOrdered pctCmd :=
  pctCmd_meets (I := fun _ => OffsetsUp) (fun _ h _ => h) (fun _ h hr => h.up_of_ready hr (by decide)) (fun _ _ h => h)
    (fun _ _ _ h => h) (fun _ _ h => h) (fun _ _ h _ => h) fun _ h _ => h

theorem setupCmd_keeps_offsets : StageKeeps OffsetsOrdered setupCmd :=
  setupCmd_meets (P := OffsetsUp) (fun _ h _ => h) (fun _ h hr => h.up_of_ready hr (by decide))
    ⟨fun _ _ _ _ _ h => h, fun _ h => h⟩ (fun _ h _ => h) (fun _ h _ => h) fun _ h _ _ => h

theorem reconCmd_keeps_offsets : StageKeeps OffsetsOrdered reconCmd :=
  reconCmd_meets_simple (P := OffsetsUp) (fun _ h _ => h) (fun _ h hr => h.up_of_ready hr (by decide))
    (fun _ => ⟨fun _ _ _ _ _ h => h, fun _ _ h => h, fun _ _ h => h, fun _ _ h => h⟩) (fun _ _ h _ => h) fun _ h _ => h

theorem commands_keep_offsets : CommandsKeep OffsetsOrdered where
  bitReader _ _ _ _ hc ht h := bitReader_keeps (fun _ _ _ _ h => h) hc ht h
  illegal _ h := h
  succeeded _ h := h
  openFile := openCmd_keeps_offsets
  dirhdr := dirhdrCmd_keeps_offsets
  readPrefix := prefixCmd_keeps_offsets
  pct := pctCmd_keeps_offsets
  setup := setupCmd_keeps_offsets
  recon := reconCmd_keeps_offsets

theorem host_keeps_offsets : HostKeeps OffsetsOrdered where
  queue _ _ h := h
  arg0 _ _ h := h
  arg1 _ _ h := h
  srcLen s _ h hv _ := fun hn => absurd (h hn).1 (by simp [hv])
  enable _ h := fun hn => ⟨rfl, (h hn).2⟩
  disable _ _ := offsetsOrdered_of_idle rfl
  byte _ _ _ h _ := h
  reset _ _ := offsetsOrdered_of_idle rfl

/-- Settles O56: the host's writes and the commands keep the table of an open file. -/
theorem offsetTableStaysOrdered : Obligations.OffsetTableStaysOrdered :=
  fun _ _ h ht => step_keeps host_keeps_offsets commands_keep_offsets h ht

end Sys2Proof.Machine

/-! PROOF of O57 (R42, R190, R191): PCT puts the values it finds in rising order into an empty table, and no later command of the
direction writes the table. -/
namespace Sys2Proof.Machine

open Sys2Proof.Claims

/-- The table lists values below `j` in rising order, at most `j` of them: what `j` presence bits can have put. -/
def CodesBelow (j : Nat) (s : State) : Prop :=
  s.pctCount.toNat ≤ j ∧ (∀ i, i < s.pctCount.toNat → (s.code i).toNat < j) ∧
    ∀ i k, i < k → k < s.pctCount.toNat → (s.code i).toNat < (s.code k).toNat

theorem codesBelow_of_empty {s : State} (h : s.pctCount = 0) : CodesBelow 0 s := by
  simp [CodesBelow, h]

theorem CodesBelow.skip {j : Nat} {s : State} (h : CodesBelow j s) : CodesBelow (j + 1) s :=
  have ⟨hcount, hlt, hord⟩ := h
  ⟨Nat.le_succ_of_le hcount, fun i hi => Nat.lt_succ_of_lt (hlt i hi), hord⟩

theorem CodesBelow.put {j : Nat} {s : State} (hj : j < 256) (h : CodesBelow j s) :
    CodesBelow (j + 1) (s.putCode (BitVec.ofNat 8 j)) := by
  obtain ⟨hcount, hlt, hord⟩ := h
  have hnext : (s.putCode (BitVec.ofNat 8 j)).pctCount.toNat = s.pctCount.toNat + 1 := by
    have h1 : (1 : BitVec 9).toNat = 1 := rfl
    rw [State.putCode_pctCount, BitVec.toNat_add_of_lt (by omega), h1]
  have hnew : (BitVec.ofNat 8 j).toNat = j := by simp only [BitVec.toNat_ofNat]; omega
  refine ⟨by omega, fun i hi => ?_, fun i k hik hk => ?_⟩
  · rw [State.code_putCode]
    split
    · omega
    · exact Nat.lt_succ_of_lt (hlt i (by omega))
  · rw [State.code_putCode, State.code_putCode, if_neg (by omega)]
    split
    · rw [hnew]
      exact hlt i (by omega)
    · exact hord i k hik (by omega)

/-! ### The invariant at each stage -/

variable {s : State}

theorem codesOrdered_of_open (h : s.stage = .idle ∨ s.stage = .opened) : CodesOrdered s := by
  rcases h with h | h <;> simp [CodesOrdered, h]

theorem codesOrdered_of_empty (hs : s.stage = .hdr ∨ s.stage = .prefixed) (h : s.pctCount = 0) : CodesOrdered s :=
  ⟨fun _ => h, fun hg => by rcases hs with hs | hs <;> simp [hs] at hg⟩

theorem codesOrdered_of_failed (hs : s.stage = .prefixed) (h : s.failed = true) : CodesOrdered s :=
  ⟨fun hg => by simp [h] at hg, fun hg => by simp [hs] at hg⟩

theorem codesOrdered_of_below (hs : s.stage = .pct ∨ s.stage = .setup ∨ s.stage = .done) (h : CodesBelow 256 s) :
    CodesOrdered s :=
  ⟨fun hg => by rcases hs with hs | hs | hs <;> simp [hs] at hg, fun _ => ⟨h.1, h.2.2⟩⟩

/-- The values of a table from stage PCT on are below 256 because they are bytes. -/
theorem CodesOrdered.below (h : CodesOrdered s) (hs : s.stage = .pct ∨ s.stage = .setup ∨ s.stage = .done) :
    CodesBelow 256 s :=
  have ⟨hcount, hord⟩ := h.2 hs
  ⟨hcount, fun i _ => (s.code i).isLt, hord⟩

/-- FAILED only gets set, which asks less. -/
theorem takeError_keeps_codes (g : CmdGroup) (e : ErrorKind) (h : CodesOrdered s) : CodesOrdered (takeError g e s) :=
  ⟨fun ⟨hs, hf⟩ => h.1 ⟨hs, by simp at hf; exact hf.1⟩, h.2⟩

/-! ### The commands -/

theorem openCmd_keeps_codes : StageKeeps CodesOrdered openCmd :=
  openCmd_meets (A := fun s => s.stage = .idle) (fun _ _ _ => rfl) (fun _ _ _ => codesOrdered_of_open (.inl rfl))
    (fun _ _ h => h) (fun _ _ _ h => h) (fun _ _ _ h => codesOrdered_of_open (.inl h)) fun _ _ _ _ => codesOrdered_of_open (.inr rfl)

theorem dirhdrCmd_keeps_codes : StageKeeps CodesOrdered dirhdrCmd :=
  dirhdrCmd_meets_simple (A := fun s => s.stage = .opened ∧ s.pctCount = 0) (fun _ h _ => takeError_keeps_codes _ _ h)
    (fun _ h _ _ => takeError_keeps_codes _ _ h) (fun _ _ _ => ⟨rfl, rfl⟩)
    ⟨fun _ _ h => h, fun _ _ h => h, fun _ _ h => h, fun _ _ h => h, fun _ _ h => h⟩ (fun _ _ _ _ h => h)
    (fun _ h => codesOrdered_of_open (.inr h.1)) fun _ h => codesOrdered_of_empty (.inl rfl) h.2

theorem prefixCmd_keeps_codes : StageKeeps CodesOrdered prefixCmd :=
  prefixCmd_meets (P := fun s => s.stage = .hdr ∧ s.pctCount = 0) (fun _ h _ => takeError_keeps_codes _ _ h)
    (fun _ h hr => ⟨hr.1, h.1 ⟨.inl hr.1, hr.2⟩⟩) (fun _ _ h => h) (fun _ _ h => h)
    (fun _ h => codesOrdered_of_empty (.inl h.1) h.2) fun _ h => codesOrdered_of_empty (.inr rfl) h.2

theorem pctCmd_keeps_codes : StageKeeps CodesOrdered pctCmd :=
  pctCmd_meets (I := fun j s => s.stage = .prefixed ∧ CodesBelow j s) (fun _ h _ => takeError_keeps_codes _ _ h)
    (fun _ h hr => ⟨hr.1, codesBelow_of_empty (h.1 ⟨.inr hr.1, hr.2⟩)⟩) (fun _ _ h => h) (fun _ _ hj h => ⟨h.1, h.2.put hj⟩)
    (fun _ _ h => ⟨h.1, h.2.skip⟩) (fun _ s h => codesOrdered_of_failed h.1 (Bool.or_true s.failed))
    fun _ h => codesOrdered_of_below (.inl rfl) h.2

theorem setupCmd_keeps_codes : StageKeeps CodesOrdered setupCmd :=
  setupCmd_meets (P := fun s => s.stage = .pct ∧ CodesBelow 256 s) (fun _ h _ => takeError_keeps_codes _ _ h)
    (fun _ h hr => ⟨hr.1, h.below (.inl hr.1)⟩) ⟨fun _ _ _ _ _ h => h, fun _ h => h⟩
    (fun _ h => codesOrdered_of_below (.inl h.1) h.2) (fun _ h => codesOrdered_of_below (.inl h.1) h.2)
    fun _ h _ => codesOrdered_of_below (.inr (.inl rfl)) h.2

theorem reconCmd_keeps_codes : StageKeeps CodesOrdered reconCmd :=
  reconCmd_meets_simple (P := fun s => s.stage = .setup ∧ CodesBelow 256 s) (fun _ h _ => takeError_keeps_codes _ _ h)
    (fun _ h hr => ⟨hr.1, h.below (.inr (.inl hr.1))⟩)
    (fun _ => ⟨fun _ _ _ _ _ h => h, fun _ _ h => h, fun _ _ h => h, fun _ _ h => h⟩)
    (fun _ _ h => codesOrdered_of_below (.inr (.inl h.1)) h.2) fun _ h => codesOrdered_of_below (.inr (.inr rfl)) h.2

theorem commands_keep_codes : CommandsKeep CodesOrdered where
  bitReader _ _ _ _ hc ht h := bitReader_keeps (fun _ _ _ _ h => h) hc ht h
  illegal _ h := takeError_keeps_codes _ _ h
  succeeded _ h := h
  openFile := openCmd_keeps_codes
  dirhdr := dirhdrCmd_keeps_codes
  readPrefix := prefixCmd_keeps_codes
  pct := pctCmd_keeps_codes
  setup := setupCmd_keeps_codes
  recon := reconCmd_keeps_codes

theorem host_keeps_codes : HostKeeps CodesOrdered where
  queue _ _ h := h
  arg0 _ _ h := h
  arg1 _ _ h := h
  srcLen _ _ h _ _ := h
  enable _ h := h
  disable _ _ := codesOrdered_of_open (.inl rfl)
  byte _ _ _ h _ := h
  reset _ _ := codesOrdered_of_open (.inl rfl)

/-- Settles O57: the host's writes and the commands keep the order of the table. -/
theorem codeTableStaysOrdered : Obligations.CodeTableStaysOrdered :=
  fun _ _ h ht => step_keeps host_keeps_codes commands_keep_codes h ht

end Sys2Proof.Machine

/-! PROOF of O58 (R39, R166, R168, R203): DIRHDR ends with every frame's extents computed and their union stored, SETUP with the
grid of that union; no other command of the direction writes them. -/
namespace Sys2Proof.Machine

open Sys2Proof.Claims

/-! ### Minimum and maximum over the frames -/

theorem minOver_le {g : Nat → Int} {f n : Nat} (h : f ≤ n) : minOver g n ≤ g f := by
  induction n with
  | zero => rw [Nat.le_zero.1 h]; exact Int.le_refl _
  | succ n ih =>
    rw [minOver]
    rcases Nat.le_succ_iff.1 h with h | rfl
    · exact Int.le_trans (Int.min_le_left ..) (ih h)
    · exact Int.min_le_right ..

theorem le_maxOver {g : Nat → Int} {f n : Nat} (h : f ≤ n) : g f ≤ maxOver g n := by
  induction n with
  | zero => rw [Nat.le_zero.1 h]; exact Int.le_refl _
  | succ n ih =>
    rw [maxOver]
    rcases Nat.le_succ_iff.1 h with h | rfl
    · exact Int.le_trans (ih h) (Int.le_max_left ..)
    · exact Int.le_max_right ..

theorem exists_minOver (g : Nat → Int) (n : Nat) : ∃ f ≤ n, minOver g n = g f := by
  induction n with
  | zero => exact ⟨0, Nat.le_refl _, rfl⟩
  | succ n ih =>
    obtain ⟨f, hf, he⟩ := ih
    rw [minOver]
    rcases Int.le_total (minOver g n) (g (n + 1)) with h | h
    · exact ⟨f, Nat.le_succ_of_le hf, by rw [Int.min_eq_left h, he]⟩
    · exact ⟨n + 1, Nat.le_refl _, Int.min_eq_right h⟩

theorem exists_maxOver (g : Nat → Int) (n : Nat) : ∃ f ≤ n, maxOver g n = g f := by
  induction n with
  | zero => exact ⟨0, Nat.le_refl _, rfl⟩
  | succ n ih =>
    obtain ⟨f, hf, he⟩ := ih
    rw [maxOver]
    rcases Int.le_total (g (n + 1)) (maxOver g n) with h | h
    · exact ⟨f, Nat.le_succ_of_le hf, by rw [Int.max_eq_left h, he]⟩
    · exact ⟨n + 1, Nat.le_refl _, Int.max_eq_right h⟩

/-! ### A frame with its extents -/

theorem toInt_ofInt_small {v : Int} (h : -2 ^ 63 ≤ v ∧ v < 2 ^ 63) : (BitVec.ofInt 64 v).toInt = v := by
  rw [BitVec.toInt_ofInt, Int.bmod_eq_of_le (by omega) (by omega)]

/-- The extents of a finished frame, as exact integers (R166). -/
theorem extents_of_finished {h : FrameHeader} (hf : frameExtents h = h) :
    h.fxmin.toInt = h.xoff.toInt ∧ h.fxmax.toInt = h.xoff.toInt + h.width.toNat ∧
    h.fymin.toInt = (if h.bottomUp then h.yoff.toInt else h.yoff.toInt - h.height.toNat + 1) ∧
    h.fymax.toInt = (if h.bottomUp then h.yoff.toInt + h.height.toNat else h.yoff.toInt + 1) := by
  have hx := h.xoff.toInt_lt
  have hx' := h.xoff.le_toInt
  have hy := h.yoff.toInt_lt
  have hy' := h.yoff.le_toInt
  have hw := h.width.isLt
  have hh := h.height.isLt
  rw [← hf]
  simp only [frameExtents]
  refine ⟨toInt_ofInt_small (by omega), toInt_ofInt_small (by omega), toInt_ofInt_small ?_, toInt_ofInt_small ?_⟩
  all_goals split <;> omega

/-- A finished frame is as wide and as high as its header says (R166). -/
theorem sizes_of_finished {h : FrameHeader} (hf : frameExtents h = h) :
    h.fxmax.toInt = h.fxmin.toInt + h.width.toNat ∧ h.fymax.toInt = h.fymin.toInt + h.height.toNat := by
  obtain ⟨hxmin, hxmax, hymin, hymax⟩ := extents_of_finished hf
  refine ⟨by rw [hxmax, hxmin], ?_⟩
  rw [hymax, hymin]
  split <;> omega

/-- A finished frame's extents are sums of numbers of 32 bits (R166). -/
theorem bounds_of_finished {h : FrameHeader} (hf : frameExtents h = h) :
    (-2 ^ 32 - 2 ^ 31 ≤ h.fxmin.toInt ∧ h.fxmax.toInt ≤ 2 ^ 32 + 2 ^ 31) ∧
    (-2 ^ 32 - 2 ^ 31 ≤ h.fymin.toInt ∧ h.fymax.toInt ≤ 2 ^ 32 + 2 ^ 31) := by
  obtain ⟨hxmin, hxmax, hymin, hymax⟩ := extents_of_finished hf
  have hx := h.xoff.toInt_lt
  have hx' := h.xoff.le_toInt
  have hy := h.yoff.toInt_lt
  have hy' := h.yoff.le_toInt
  have hw := h.width.isLt
  have hh := h.height.isLt
  rw [hxmin, hxmax, hymin, hymax]
  refine ⟨⟨by omega, by omega⟩, ?_, ?_⟩
  all_goals split <;> omega

/-! ### The direction extents -/

theorem toInt_ofInt_minOver (g : Nat → DWord) (n : Nat) :
    (BitVec.ofInt 64 (minOver (fun f => (g f).toInt) n)).toInt = minOver (fun f => (g f).toInt) n := by
  obtain ⟨f, -, hf⟩ := exists_minOver (fun f => (g f).toInt) n
  rw [hf, BitVec.ofInt_toInt]

theorem toInt_ofInt_maxOver (g : Nat → DWord) (n : Nat) :
    (BitVec.ofInt 64 (maxOver (fun f => (g f).toInt) n)).toInt = maxOver (fun f => (g f).toInt) n := by
  obtain ⟨f, -, hf⟩ := exists_maxOver (fun f => (g f).toInt) n
  rw [hf, BitVec.ofInt_toInt]

/-- A range of pixels between numbers of this size needs a count of cells of 32 bits (R203). -/
theorem cellsAcross_lt {lo hi : DWord} (hlo : -2 ^ 32 - 2 ^ 31 ≤ lo.toInt) (hhi : hi.toInt ≤ 2 ^ 32 + 2 ^ 31) :
    cellsAcross lo hi < 2 ^ 32 := by
  unfold cellsAcross
  omega

/-- The frames below `n` have their extents. -/
def FramesFinished (n : Nat) (s : State) : Prop := ∀ f, f < n → frameExtents (s.frame f) = s.frame f

/-- The union's sides, as exact integers (R168). -/
theorem unionExtents_toInt {s : State} (h : s.header.fpd ≠ 0) :
    s.unionExtents.xmin.toInt = minOver (fun f => (s.frame f).fxmin.toInt) (s.header.fpd.toNat - 1) ∧
    s.unionExtents.xmax.toInt = maxOver (fun f => (s.frame f).fxmax.toInt) (s.header.fpd.toNat - 1) ∧
    s.unionExtents.ymin.toInt = minOver (fun f => (s.frame f).fymin.toInt) (s.header.fpd.toNat - 1) ∧
    s.unionExtents.ymax.toInt = maxOver (fun f => (s.frame f).fymax.toInt) (s.header.fpd.toNat - 1) := by
  rw [State.unionExtents, if_neg h]
  exact ⟨toInt_ofInt_minOver .., toInt_ofInt_maxOver .., toInt_ofInt_minOver .., toInt_ofInt_maxOver ..⟩

theorem frameInside_union {s : State} {f : Nat} (hf : FramesFinished s.header.fpd.toNat s) (hlt : f < s.header.fpd.toNat) :
    frameInside s.unionExtents (s.frame f) := by
  have hpos : s.header.fpd ≠ 0 := fun hz => by rw [hz] at hlt; exact Nat.not_lt_zero f hlt
  obtain ⟨hxmin, hxmax, hymin, hymax⟩ := unionExtents_toInt hpos
  obtain ⟨hw, hh⟩ := sizes_of_finished (hf f hlt)
  have hle := Nat.le_sub_one_of_lt hlt
  refine ⟨hw, hh, hxmin ▸ ?_, hxmax ▸ ?_, hymin ▸ ?_, hymax ▸ ?_⟩
  · exact minOver_le (g := fun f => (s.frame f).fxmin.toInt) hle
  · exact le_maxOver (g := fun f => (s.frame f).fxmax.toInt) hle
  · exact minOver_le (g := fun f => (s.frame f).fymin.toInt) hle
  · exact le_maxOver (g := fun f => (s.frame f).fymax.toInt) hle

theorem extentsFit_union {s : State} (hf : FramesFinished s.header.fpd.toNat s) (hpos : s.header.fpd ≠ 0) :
    extentsFit s.unionExtents := by
  have hlt : 0 < s.header.fpd.toNat := Nat.pos_of_ne_zero fun h => hpos (BitVec.eq_of_toNat_eq h)
  obtain ⟨hw, hh, hx, hx', hy, hy'⟩ := frameInside_union hf hlt
  obtain ⟨hxmin, hxmax, hymin, hymax⟩ := unionExtents_toInt hpos
  refine ⟨by omega, by omega, cellsAcross_lt (hxmin ▸ ?_) (hxmax ▸ ?_), cellsAcross_lt (hymin ▸ ?_) (hymax ▸ ?_)⟩
  · obtain ⟨f, hle, he⟩ := exists_minOver (fun f => (s.frame f).fxmin.toInt) (s.header.fpd.toNat - 1)
    exact he ▸ (bounds_of_finished (hf f (by omega))).1.1
  · obtain ⟨f, hle, he⟩ := exists_maxOver (fun f => (s.frame f).fxmax.toInt) (s.header.fpd.toNat - 1)
    exact he ▸ (bounds_of_finished (hf f (by omega))).1.2
  · obtain ⟨f, hle, he⟩ := exists_minOver (fun f => (s.frame f).fymin.toInt) (s.header.fpd.toNat - 1)
    exact he ▸ (bounds_of_finished (hf f (by omega))).2.1
  · obtain ⟨f, hle, he⟩ := exists_maxOver (fun f => (s.frame f).fymax.toInt) (s.header.fpd.toNat - 1)
    exact he ▸ (bounds_of_finished (hf f (by omega))).2.2

/-- The extents of a direction without frames stay those of DirClear (R168). -/
theorem unionExtents_frameless {s : State} (h : s.header.fpd = 0) : s.unionExtents = s.extents := by
  rw [State.unionExtents, if_pos h]

/-- The union of finished frames is in order, fits the grid registers and holds every frame (R168). -/
theorem unionExtents_sound {s : State} (hf : FramesFinished s.header.fpd.toNat s) (h0 : s.extents = ⟨0, 0, 0, 0⟩) :
    extentsFit s.unionExtents ∧ ∀ f, f < s.header.fpd.toNat → frameInside s.unionExtents (s.frame f) := by
  refine ⟨?_, fun f hlt => frameInside_union hf hlt⟩
  by_cases hz : s.header.fpd = 0
  · rw [unionExtents_frameless hz, h0]
    unfold extentsFit
    decide
  · exact extentsFit_union hf hz

/-! ### The invariant at each stage -/

/-- What `GeometrySound` says from stage HDR on: the extents and the frames. -/
def FramesInside (s : State) : Prop :=
  extentsFit s.extents ∧ ∀ f, f < s.header.fpd.toNat → frameInside s.extents (s.frame f)

/-- What it says from stage SETUP on: the grid registers. -/
def GridOfExtents (s : State) : Prop :=
  s.gw.toNat = cellsAcross s.extents.xmin s.extents.xmax ∧ s.gh.toNat = cellsAcross s.extents.ymin s.extents.ymax

variable {s : State}

theorem geometrySound_of_open (h : s.stage = .idle ∨ s.stage = .opened) : GeometrySound s := by
  rcases h with h | h <;> simp [GeometrySound, h]

theorem geometrySound_of_inside (hs : s.stage = .hdr ∨ s.stage = .prefixed ∨ s.stage = .pct) (h : FramesInside s) :
    GeometrySound s :=
  ⟨fun _ => h, fun hg => by rcases hs with hs | hs | hs <;> simp [hs] at hg⟩

theorem geometrySound_of_grid (h : FramesInside s ∧ GridOfExtents s) : GeometrySound s := ⟨fun _ => h.1, fun _ => h.2⟩

theorem cellCount_toNat {lo hi : DWord} (hle : lo.toInt ≤ hi.toInt) (h : cellsAcross lo hi < 2 ^ 32) :
    (cellCount lo hi).toNat = cellsAcross lo hi := by
  unfold cellsAcross at h ⊢
  rw [cellCount, BitVec.toNat_ofInt, Int.emod_eq_of_lt (by omega) (by omega)]

theorem sizeGrid_grid (h : FramesInside s) : GridOfExtents s.sizeGrid :=
  have ⟨⟨hx, hy, hcols, hrows⟩, _⟩ := h
  ⟨cellCount_toNat hx hcols, cellCount_toNat hy hrows⟩

/-! ### The commands -/

theorem openCmd_keeps_geometry : StageKeeps GeometrySound openCmd :=
  openCmd_meets (A := fun s => s.stage = .idle) (fun _ _ _ => rfl) (fun _ _ _ => geometrySound_of_open (.inl rfl))
    (fun _ _ h => h) (fun _ _ _ h => h) (fun _ _ _ h => geometrySound_of_open (.inl h))
    fun _ _ _ _ => geometrySound_of_open (.inr rfl)

/-- DIRHDR before frame `f` of the `n` frames is read. -/
def ReadingFrame (n f : Nat) (s : State) : Prop :=
  s.stage = .opened ∧ s.header.fpd.toNat = n ∧ s.extents = ⟨0, 0, 0, 0⟩ ∧ FramesFinished f s

theorem FramesFinished.setFrame {f : Nat} (v : FrameHeader) (h : FramesFinished f s) : FramesFinished f (s.setFrame f v) := by
  intro g hg
  rw [State.frame_setFrame, if_neg (Nat.ne_of_lt hg)]
  exact h g hg

theorem FramesFinished.finish {f : Nat} (h : FramesFinished f s) :
    FramesFinished (f + 1) (s.setFrame f (frameExtents (s.frame f))) := by
  intro g hg
  rw [State.frame_setFrame]
  split
  · rfl
  · exact h g (by omega)

theorem dirhdrCmd_keeps_geometry : StageKeeps GeometrySound dirhdrCmd := fun s₀ h₀ => by
  have hreads : ∀ f, HeaderReadsKeep (ReadingFrame s₀.header.fpd.toNat f) := fun f =>
    ⟨fun _ _ h => h, fun _ _ h => h, fun _ _ h => h, fun _ _ h => h, fun _ _ h => h⟩
  have htrunc : ∀ f s, ReadingFrame s₀.header.fpd.toNat f s → GeometrySound (takeError .stage .truncatedStream s) :=
    fun f s h => geometrySound_of_open (.inr h.1)
  refine dirhdrCmd_meets (P₀ := fun s => s = s₀) (A := ReadingFrame s₀.header.fpd.toNat 0) (I := ReadingFrame s₀.header.fpd.toNat)
    (n := s₀.header.fpd.toNat) (fun _ hs _ => hs ▸ h₀) (fun _ hs _ _ => hs ▸ h₀) ?_
    (readDirectionHeader_meets (hreads 0) (htrunc 0)) (fun _ _ h => h.2.1) (fun f _ => ?_) (fun f => ?_) ?_ s₀ rfl
  · rintro s rfl -
    exact ⟨rfl, rfl, rfl, fun f hf => absurd hf (Nat.not_lt_zero f)⟩
  · exact readFrameHeader_meets (hreads f).moved (fun s v ⟨hs, hn, he, hf⟩ => ⟨hs, hn, he, hf.setFrame v⟩) (htrunc f)
      fun s ⟨hs, hn, he, hf⟩ => ⟨hs, hn, he, hf.finish⟩
  · exact skipOptional_meets (hreads _).moved (htrunc _)
  · rintro s ⟨-, hn, he, hf⟩
    exact geometrySound_of_inside (.inl rfl) (unionExtents_sound (hn ▸ hf) he)

theorem prefixCmd_keeps_geometry : StageKeeps GeometrySound prefixCmd :=
  prefixCmd_meets (P := fun s => s.stage = .hdr ∧ FramesInside s) (fun _ h _ => h) (fun _ h hr => ⟨hr.1, h.1 (.inl hr.1)⟩)
    (fun _ _ h => h) (fun _ _ h => h) (fun _ h => geometrySound_of_inside (.inl h.1) h.2)
    fun _ h => geometrySound_of_inside (.inr (.inl rfl)) h.2

theorem pctCmd_keeps_geometry : StageKeeps GeometrySound pctCmd :=
  pctCmd_meets (I := fun _ s => s.stage = .prefixed ∧ FramesInside s) (fun _ h _ => h)
    (fun _ h hr => ⟨hr.1, h.1 (.inr (.inl hr.1))⟩) (fun _ _ h => h) (fun _ _ _ h => h) (fun _ _ h => h)
    (fun _ _ h => geometrySound_of_inside (.inr (.inl h.1)) h.2) fun _ h => geometrySound_of_inside (.inr (.inr rfl)) h.2

theorem setupCmd_keeps_geometry : StageKeeps GeometrySound setupCmd :=
  setupCmd_meets (P := fun s => s.stage = .pct ∧ FramesInside s) (fun _ h _ => h)
    (fun _ h hr => ⟨hr.1, h.1 (.inr (.inr (.inl hr.1)))⟩) ⟨fun _ _ _ _ _ h => h, fun _ h => h⟩
    (fun _ h => geometrySound_of_inside (.inr (.inr h.1)) h.2) (fun _ h => geometrySound_of_inside (.inr (.inr h.1)) h.2)
    fun _ h _ => geometrySound_of_grid ⟨h.2, sizeGrid_grid h.2⟩

theorem reconCmd_keeps_geometry : StageKeeps GeometrySound reconCmd :=
  reconCmd_meets_simple (P := fun s => FramesInside s ∧ GridOfExtents s) (fun _ h _ => h)
    (fun _ h hr => ⟨h.1 (.inr (.inr (.inr (.inl hr.1)))), h.2 (.inl hr.1)⟩)
    (fun _ => ⟨fun _ _ _ _ _ h => h, fun _ _ h => h, fun _ _ h => h, fun _ _ h => h⟩) (fun _ _ h => geometrySound_of_grid h)
    fun _ h => geometrySound_of_grid h

theorem commands_keep_geometry : CommandsKeep GeometrySound where
  bitReader _ _ _ _ hc ht h := bitReader_keeps (fun _ _ _ _ h => h) hc ht h
  illegal _ h := h
  succeeded _ h := h
  openFile := openCmd_keeps_geometry
  dirhdr := dirhdrCmd_keeps_geometry
  readPrefix := prefixCmd_keeps_geometry
  pct := pctCmd_keeps_geometry
  setup := setupCmd_keeps_geometry
  recon := reconCmd_keeps_geometry

theorem host_keeps_geometry : HostKeeps GeometrySound where
  queue _ _ h := h
  arg0 _ _ h := h
  arg1 _ _ h := h
  srcLen _ _ h _ _ := h
  enable _ h := h
  disable _ _ := geometrySound_of_open (.inl rfl)
  byte _ _ _ h _ := h
  reset _ _ := geometrySound_of_open (.inl rfl)

/-- Settles O58: the host's writes and the commands keep the geometry. -/
theorem geometryStaysSound : Obligations.GeometryStaysSound :=
  fun _ _ h ht => step_keeps host_keeps_geometry commands_keep_geometry h ht

end Sys2Proof.Machine

/-! PROOF of O59 and O47 (R43, R45, R47, R49, R205, R220, R222): SETUP empties the grid's slots and both counts, and a cell step of
RECON appends an entry, its slot and its record together, or stops at a full LOG or MAP. -/
namespace Sys2Proof.Machine

open Sys2Proof.Claims

theorem logCap_le_mapCap (p : Params) : p.logCap ≤ p.mapCap := Nat.le_max_left ..

theorem mapCap_lt (p : Params) : p.mapCap < 2 ^ 32 := by
  have := p.mapCapRaw.isLt
  have := p.logCapRaw.isLt
  unfold Params.mapCap Params.logCap
  omega

/-- A count below a capacity of 32 bits does not wrap when it is counted up. -/
theorem count_succ {c : Word} {cap : Nat} (h : c.toNat < cap) (hcap : cap < 2 ^ 32) : (c + 1).toNat = c.toNat + 1 := by
  have h1 : (1 : Word).toNat = 1 := rfl
  rw [BitVec.toNat_add_of_lt (by omega), h1]

/-! ### What a step appends -/

/-- LogAppend and the cell's slot, without the capacity check (R220, R210 step 8). -/
def State.appendEntry (s : State) (f k : Nat) (e : Slots) : State :=
  (s.putEntry ⟨e, BitVec.ofNat 8 f, BitVec.ofNat 32 k⟩).setLast k s.logCount

@[simp] theorem State.appendEntry_logCount (s : State) (f k : Nat) (e : Slots) :
    (s.appendEntry f k e).logCount = s.logCount + 1 := rfl

@[simp] theorem State.appendEntry_mapCount (s : State) (f k : Nat) (e : Slots) :
    (s.appendEntry f k e).mapCount = s.mapCount := rfl

@[simp] theorem State.appendEntry_params (s : State) (f k : Nat) (e : Slots) : (s.appendEntry f k e).params = s.params := rfl

@[simp] theorem State.cells_appendEntry (s : State) (f k : Nat) (e : Slots) : (s.appendEntry f k e).cells = s.cells := by
  simp only [State.appendEntry, State.cells_setLast, State.cells_putEntry]

@[simp] theorem State.record_appendEntry (s : State) (f k j : Nat) (e : Slots) :
    (s.appendEntry f k e).record j = s.record j := by
  simp only [State.appendEntry, State.record_setLast, State.record_putEntry]

theorem State.entry_appendEntry (s : State) (f k j : Nat) (e : Slots) :
    (s.appendEntry f k e).entry j = if j = s.logCount.toNat then ⟨e, BitVec.ofNat 8 f, BitVec.ofNat 32 k⟩ else s.entry j := by
  rw [State.appendEntry, State.entry_setLast, State.entry_putEntry]

theorem State.lastEntry_appendEntry (s : State) (f k l : Nat) (e : Slots) :
    (s.appendEntry f k e).lastEntry l = if l = k then some s.logCount else s.lastEntry l := by
  rw [State.appendEntry, State.lastEntry_setLast, State.lastEntry_putEntry]

/-- The ways the append of a new entry ends: LOG full, MAP full with the entry appended, or entry and record appended. -/
theorem recordEntry_meets {P : State → Prop} {E : ErrorKind → State → Prop} {f k : Nat} {e : Slots}
    (hlog : ∀ s, P s → E .capacityExceeded s)
    (hmap : ∀ s, P s → s.logCount.toNat ≠ s.params.logCap → s.mapCount.toNat = s.params.mapCap →
      E .capacityExceeded (s.appendEntry f k e))
    (hdone : ∀ s, P s → s.logCount.toNat ≠ s.params.logCap → s.mapCount.toNat ≠ s.params.mapCap →
      P ((s.appendEntry f k e).putRecord ⟨BitVec.ofNat 8 f, BitVec.ofNat 32 k, s.logCount, false⟩)) :
    Meets P (recordEntry f k e) (fun _ => P) E := by
  refine Meets.withState fun s hs => ?_
  refine Meets.bind (Q := fun _ t => s.logCount.toNat ≠ s.params.logCap ∧ t = s.putEntry ⟨e, BitVec.ofNat 8 f, BitVec.ofNat 32 k⟩)
    (Meets.bind (Q := fun _ t => s.logCount.toNat ≠ s.params.logCap ∧ t = s) ?_ fun _ => ?_) fun _ => ?_
  · exact Meets.raiseWhen (fun t ht hn => ⟨of_decide_eq_false (ht ▸ hn), ht⟩) fun t ht _ => ht ▸ hlog s hs
  · exact Meets.write fun t ht => ⟨ht.1, ht.2 ▸ rfl⟩
  refine Meets.bind (Q := fun _ t => s.logCount.toNat ≠ s.params.logCap ∧ t = s.appendEntry f k e)
    (Meets.write fun t ht => ⟨ht.1, ht.2 ▸ rfl⟩) fun _ => ?_
  refine Meets.bind (Q := fun _ t => s.logCount.toNat ≠ s.params.logCap ∧ s.mapCount.toNat ≠ s.params.mapCap ∧
    t = s.appendEntry f k e) (Meets.raiseWhen ?_ ?_) fun _ => Meets.write ?_
  · rintro t ⟨hl, rfl⟩ hn
    exact ⟨hl, of_decide_eq_false hn, rfl⟩
  · rintro t ⟨hl, rfl⟩ hm
    exact hmap s hs hl (of_decide_eq_true hm)
  · rintro t ⟨hl, hm, rfl⟩
    exact hdone s hs hl hm

theorem mapAppend_meets {P : State → Prop} {E : ErrorKind → State → Prop} {f k : Nat} {j : Word} {r : Bool}
    (hmap : ∀ s, P s → E .capacityExceeded s)
    (hdone : ∀ s, P s → s.mapCount.toNat ≠ s.params.mapCap → P (s.putRecord ⟨BitVec.ofNat 8 f, BitVec.ofNat 32 k, j, r⟩)) :
    Meets P (mapAppend f k j r) (fun _ => P) E :=
  Meets.bind (Q := fun _ s => P s ∧ s.mapCount.toNat ≠ s.params.mapCap)
    (Meets.raiseWhen (fun _ hs hn => ⟨hs, of_decide_eq_false hn⟩) fun s hs _ => hmap s hs) fun _ =>
      Meets.write fun s hs => hdone s hs.1 hs.2

/-! ### The invariant from stage SETUP on -/

/-- Every slot of the grid that is not NONE is an entry of the log for its own cell (R49). -/
def SlotsSound (s : State) : Prop :=
  ∀ k h, k < s.cells → s.lastEntry k = some h → h.toNat < s.logCount.toNat ∧ (s.entry h.toNat).cell = BitVec.ofNat 32 k

/-- What `LogSound` says from stage SETUP on. -/
def LogUp (s : State) : Prop :=
  s.logCount.toNat ≤ s.params.logCap ∧ s.mapCount.toNat ≤ s.params.mapCap ∧ s.cells ≤ s.params.maxCells ∧
    s.logCount.toNat ≤ s.mapCount.toNat ∧ SlotsSound s

/-- The two counts are within their capacities: all `LogSound` says before stage SETUP. -/
def CountsFit (s : State) : Prop := s.logCount.toNat ≤ s.params.logCap ∧ s.mapCount.toNat ≤ s.params.mapCap

variable {s : State}

theorem LogUp.log (h : LogUp s) : s.logCount.toNat ≤ s.params.logCap := h.1
theorem LogUp.map (h : LogUp s) : s.mapCount.toNat ≤ s.params.mapCap := h.2.1
theorem LogUp.cells (h : LogUp s) : s.cells ≤ s.params.maxCells := h.2.2.1
theorem LogUp.counts (h : LogUp s) : s.logCount.toNat ≤ s.mapCount.toNat := h.2.2.2.1
theorem LogUp.slots (h : LogUp s) : SlotsSound s := h.2.2.2.2

theorem LogSound.fit (h : LogSound s) : CountsFit s := ⟨h.1, h.2.1⟩

theorem LogSound.up (h : LogSound s) (hs : s.stage = .setup) : LogUp s :=
  have ⟨hlog, hmap, hup⟩ := h
  have ⟨hcells, hcounts, hslots⟩ := hup (.inl hs)
  ⟨hlog, hmap, hcells, hcounts, hslots⟩

theorem logSound_of_up (h : LogUp s) : LogSound s := ⟨h.log, h.map, fun _ => ⟨h.cells, h.counts, h.slots⟩⟩

theorem logSound_of_fit {g : Stage} (h : CountsFit s) (hs : s.stage = g) (hg : g ≠ .setup) (hd : g ≠ .done) : LogSound s :=
  ⟨h.1, h.2, fun hl => hl.elim (fun hl => absurd (hs ▸ hl) hg) fun hl => absurd (hs ▸ hl) hd⟩

theorem LogUp.log_lt (h : LogUp s) (hl : s.logCount.toNat ≠ s.params.logCap) : s.logCount.toNat < s.params.logCap :=
  Nat.lt_of_le_of_ne h.log hl

theorem LogUp.logCount_succ (h : LogUp s) (hl : s.logCount.toNat ≠ s.params.logCap) :
    (s.logCount + 1).toNat = s.logCount.toNat + 1 :=
  count_succ (h.log_lt hl) (Nat.lt_of_le_of_lt (logCap_le_mapCap _) (mapCap_lt _))

theorem LogUp.mapCount_succ (h : LogUp s) (hm : s.mapCount.toNat ≠ s.params.mapCap) :
    (s.mapCount + 1).toNat = s.mapCount.toNat + 1 :=
  count_succ (Nat.lt_of_le_of_ne h.map hm) (mapCap_lt _)

theorem SlotsSound.putRecord {r : MapRecord} (h : SlotsSound s) : SlotsSound (s.putRecord r) := by
  simpa only [SlotsSound, State.cells_putRecord, State.lastEntry_putRecord, State.putRecord_logCount, State.entry_putRecord] using h

theorem LogUp.slots_appendEntry {f k : Nat} {e : Slots} (h : LogUp s) (hl : s.logCount.toNat ≠ s.params.logCap) :
    SlotsSound (s.appendEntry f k e) := by
  intro l j hcell hlast
  rw [State.cells_appendEntry] at hcell
  rw [State.lastEntry_appendEntry] at hlast
  rw [State.entry_appendEntry, State.appendEntry_logCount, h.logCount_succ hl]
  split at hlast
  · next hk =>
    cases hlast
    exact ⟨Nat.lt_succ_self _, by rw [if_pos rfl, hk]⟩
  · obtain ⟨hlt, hown⟩ := h.slots l j hcell hlast
    exact ⟨Nat.lt_succ_of_lt hlt, by rw [if_neg (Nat.ne_of_lt hlt), hown]⟩

/-- The entry appended with MAP full: the log still has at most as many entries as the map has records, as MAP_CAP is at least
LOG_CAP (R7). -/
theorem LogUp.appendEntry_mapFull {f k : Nat} {e : Slots} (h : LogUp s) (hl : s.logCount.toNat ≠ s.params.logCap)
    (hm : s.mapCount.toNat = s.params.mapCap) : LogUp (s.appendEntry f k e) := by
  have hlt := h.log_lt hl
  have hcap := logCap_le_mapCap s.params
  rw [LogUp, State.appendEntry_logCount, State.appendEntry_mapCount, State.appendEntry_params, State.cells_appendEntry,
    h.logCount_succ hl]
  exact ⟨hlt, h.map, h.cells, by omega, h.slots_appendEntry hl⟩

theorem LogUp.appendEntry_putRecord {f k : Nat} {e : Slots} {r : MapRecord} (h : LogUp s)
    (hl : s.logCount.toNat ≠ s.params.logCap) (hm : s.mapCount.toNat ≠ s.params.mapCap) :
    LogUp ((s.appendEntry f k e).putRecord r) := by
  rw [LogUp, State.putRecord_logCount, State.putRecord_mapCount, State.putRecord_params, State.cells_putRecord,
    State.appendEntry_logCount, State.appendEntry_mapCount, State.appendEntry_params, State.cells_appendEntry,
    h.logCount_succ hl, h.mapCount_succ hm]
  exact ⟨h.log_lt hl, Nat.lt_of_le_of_ne h.map hm, h.cells, Nat.succ_le_succ h.counts, (h.slots_appendEntry hl).putRecord⟩

theorem LogUp.putRecord {r : MapRecord} (h : LogUp s) (hm : s.mapCount.toNat ≠ s.params.mapCap) : LogUp (s.putRecord r) := by
  rw [LogUp, State.putRecord_logCount, State.putRecord_mapCount, State.putRecord_params, State.cells_putRecord,
    h.mapCount_succ hm]
  exact ⟨h.log, Nat.lt_of_le_of_ne h.map hm, h.cells, Nat.le_succ_of_le h.counts, h.slots.putRecord⟩

/-! ### Only appending -/

/-- `u` has the log and the map of `s`, with more appended, and no slot of the grid has gone back (R43, R45, R47). -/
def Appended (s u : State) : Prop :=
  u.cells = s.cells ∧ s.logCount.toNat ≤ u.logCount.toNat ∧ (∀ j, j < s.logCount.toNat → u.entry j = s.entry j) ∧
    s.mapCount.toNat ≤ u.mapCount.toNat ∧ (∀ j, j < s.mapCount.toNat → u.record j = s.record j) ∧
    ∀ k h, k < s.cells → s.lastEntry k = some h → ∃ h', u.lastEntry k = some h' ∧ h.toNat ≤ h'.toNat

theorem Appended.refl (s : State) : Appended s s :=
  ⟨rfl, Nat.le_refl _, fun _ _ => rfl, Nat.le_refl _, fun _ _ => rfl, fun _ h _ hs => ⟨h, hs, Nat.le_refl _⟩⟩

variable {u : State}

theorem Appended.appendEntry {f k : Nat} {e : Slots} (ha : Appended s u) (h : LogUp u)
    (hl : u.logCount.toNat ≠ u.params.logCap) : Appended s (u.appendEntry f k e) := by
  obtain ⟨hcells, hlog, hentries, hmap, hrecords, hslots⟩ := ha
  rw [Appended, State.cells_appendEntry, State.appendEntry_logCount, State.appendEntry_mapCount, h.logCount_succ hl]
  refine ⟨hcells, Nat.le_succ_of_le hlog, fun j hj => ?_, hmap, fun j hj => ?_, fun l j hcell hs => ?_⟩
  · rw [State.entry_appendEntry, if_neg (Nat.ne_of_lt (Nat.lt_of_lt_of_le hj hlog)), hentries j hj]
  · rw [State.record_appendEntry, hrecords j hj]
  · obtain ⟨j', hj', hle⟩ := hslots l j hcell hs
    rw [State.lastEntry_appendEntry]
    split
    · exact ⟨u.logCount, rfl, Nat.le_trans hle (Nat.le_of_lt (h.slots l j' (hcells ▸ hcell) hj').1)⟩
    · exact ⟨j', hj', hle⟩

theorem Appended.putRecord {r : MapRecord} (ha : Appended s u) (hm : u.mapCount.toNat < u.params.mapCap) :
    Appended s (u.putRecord r) := by
  obtain ⟨hcells, hlog, hentries, hmap, hrecords, hslots⟩ := ha
  rw [Appended, State.cells_putRecord, State.putRecord_logCount, State.putRecord_mapCount, count_succ hm (mapCap_lt _)]
  refine ⟨hcells, hlog, fun j hj => ?_, Nat.le_succ_of_le hmap, fun j hj => ?_, fun l j hcell hs => ?_⟩
  · rw [State.entry_putRecord, hentries j hj]
  · rw [State.record_putRecord, if_neg (Nat.ne_of_lt (Nat.lt_of_lt_of_le hj hmap)), hrecords j hj]
  · rw [State.lastEntry_putRecord]
    exact hslots l j hcell hs

/-- A cell step keeps the log sound and only appends, however it ends (R210). -/
theorem cellStep_appends (s : State) (f k : Nat) :
    Meets (fun u => LogUp u ∧ Appended s u) (cellStep f k) (fun _ u => LogUp u ∧ Appended s u)
      (fun _ u => LogUp u ∧ Appended s u) := by
  refine cellStep_meets (fun _ _ _ _ _ h => h) (fun _ h => h) (fun _ h => h) (fun e => ?_) fun j => ?_
  · exact recordEntry_meets (fun _ h => h) (fun u ⟨h, ha⟩ hl hm => ⟨h.appendEntry_mapFull hl hm, ha.appendEntry h hl⟩)
      fun u ⟨h, ha⟩ hl hm =>
        ⟨h.appendEntry_putRecord hl hm, (ha.appendEntry h hl).putRecord (by simpa using Nat.lt_of_le_of_ne h.map hm)⟩
  · exact mapAppend_meets (fun _ h => h) fun u ⟨h, ha⟩ hm => ⟨h.putRecord hm, ha.putRecord (Nat.lt_of_le_of_ne h.map hm)⟩

/-- RECON from a sound log ends with a sound log and has only appended. -/
theorem reconCmd_appends (s : State) :
    Meets (fun u => u = s ∧ LogSound s) reconCmd (fun _ u => LogSound u ∧ Appended s u) (fun _ u => LogSound u ∧ Appended s u) :=
  reconCmd_meets (P := fun u => LogUp u ∧ Appended s u) (fun _ h _ => ⟨h.1 ▸ h.2, h.1 ▸ Appended.refl _⟩)
    (fun _ h hr => ⟨h.1 ▸ h.2.up (h.1 ▸ hr.1), h.1 ▸ Appended.refl _⟩)
    (fun f k => (cellStep_appends s f k).weaken (fun _ h => h) (fun _ _ h => h) fun _ _ h => ⟨logSound_of_up h.1, h.2⟩)
    fun _ h => ⟨logSound_of_up h.1, h.2⟩

/-- Settles O47: the cell steps only append. -/
theorem reconKeepsLogAppendOnly : Obligations.ReconKeepsLogAppendOnly := by
  intro s t h ht
  have ha : Appended s t := by
    rcases Meets.complete (reconCmd_appends s) ⟨rfl, h⟩ ht with ⟨u, hu, rfl⟩ | ⟨e, u, hu, rfl⟩
    · exact hu.2
    · exact hu.2
  exact ha.2

/-! ### The commands -/

theorem openCmd_keeps_log : StageKeeps LogSound openCmd :=
  openCmd_meets (A := fun s => s.stage = .idle ∧ CountsFit s) (fun _ h _ => ⟨rfl, h.fit⟩)
    (fun _ h _ => logSound_of_fit h.fit rfl nofun nofun) (fun _ _ h => h) (fun _ _ _ h => h)
    (fun _ _ _ h => logSound_of_fit h.2 h.1 nofun nofun) fun _ h _ _ => logSound_of_fit h.2 rfl nofun nofun

theorem dirhdrCmd_keeps_log : StageKeeps LogSound dirhdrCmd :=
  dirhdrCmd_meets_simple (A := fun s => s.stage = .opened ∧ CountsFit s) (fun _ h _ => h) (fun _ h _ _ => h)
    (fun _ _ _ => ⟨rfl, Nat.zero_le _, Nat.zero_le _⟩)
    ⟨fun _ _ h => h, fun _ _ h => h, fun _ _ h => h, fun _ _ h => h, fun _ _ h => h⟩ (fun _ _ _ _ h => h)
    (fun _ h => logSound_of_fit h.2 h.1 nofun nofun) fun _ h => logSound_of_fit h.2 rfl nofun nofun

theorem prefixCmd_keeps_log : StageKeeps LogSound prefixCmd :=
  prefixCmd_meets (P := fun s => s.stage = .hdr ∧ CountsFit s) (fun _ h _ => h) (fun _ h hr => ⟨hr.1, h.fit⟩) (fun _ _ h => h)
    (fun _ _ h => h) (fun _ h => logSound_of_fit h.2 h.1 nofun nofun)
    fun _ h => logSound_of_fit h.2 rfl nofun nofun

theorem pctCmd_keeps_log : StageKeeps LogSound pctCmd :=
  pctCmd_meets (I := fun _ s => s.stage = .prefixed ∧ CountsFit s) (fun _ h _ => h) (fun _ h hr => ⟨hr.1, h.fit⟩)
    (fun _ _ h => h) (fun _ _ _ h => h) (fun _ _ h => h)
    (fun _ _ h => logSound_of_fit h.2 h.1 nofun nofun) fun _ h => logSound_of_fit h.2 rfl nofun nofun

/-- SETUP leaves every slot of the grid NONE and both counts 0 (R206). -/
theorem emptyResults_up (h : s.cells ≤ s.params.maxCells) : LogUp s.emptyResults := by
  refine ⟨Nat.zero_le _, Nat.zero_le _, h, Nat.le_refl _, fun k j hcell hlast => ?_⟩
  have hnone : s.emptyResults.lastEntry k = none := by
    rw [State.lastEntry, State.emptyResults_last, Store.get_clearBelow, if_pos]
    exact hcell
  rw [hnone] at hlast
  cases hlast

theorem setupCmd_keeps_log : StageKeeps LogSound setupCmd :=
  setupCmd_meets (P := fun s => s.stage = .pct ∧ CountsFit s) (fun _ h _ => h) (fun _ h hr => ⟨hr.1, h.fit⟩)
    ⟨fun _ _ _ _ _ h => h, fun _ h => h⟩ (fun _ h => logSound_of_fit h.2 h.1 nofun nofun)
    (fun _ h => logSound_of_fit h.2 h.1 nofun nofun) fun _ _ hcap => logSound_of_up (emptyResults_up hcap)

theorem reconCmd_keeps_log : StageKeeps LogSound reconCmd := fun s hs =>
  (reconCmd_appends s).weaken (P' := fun t => t = s) (fun _ ht => ⟨ht, hs⟩) (fun _ _ h => h.1) (fun _ _ h => h.1) s rfl

theorem commands_keep_log : CommandsKeep LogSound where
  bitReader _ _ _ _ hc ht h := bitReader_keeps (fun _ _ _ _ h => h) hc ht h
  illegal _ h := h
  succeeded _ h := h
  openFile := openCmd_keeps_log
  dirhdr := dirhdrCmd_keeps_log
  readPrefix := prefixCmd_keeps_log
  pct := pctCmd_keeps_log
  setup := setupCmd_keeps_log
  recon := reconCmd_keeps_log

theorem host_keeps_log : HostKeeps LogSound where
  queue _ _ h := h
  arg0 _ _ h := h
  arg1 _ _ h := h
  srcLen _ _ h _ _ := h
  enable _ h := h
  disable _ h := logSound_of_fit h.fit rfl nofun nofun
  byte _ _ _ h _ := h
  reset _ _ := logSound_of_fit ⟨Nat.zero_le _, Nat.zero_le _⟩ rfl nofun nofun

/-- Settles O59: the host's writes and the commands keep the log sound. -/
theorem logStaysSound : Obligations.LogStaysSound :=
  fun _ _ h ht => step_keeps host_keeps_log commands_keep_log h ht

end Sys2Proof.Machine

/-! PROOF of O22 and O23 (R24, R25, R26, R29, R110, R120): which cursors a command writes, and how. -/
namespace Sys2Proof.Machine

open Sys2Proof.Claims

/-! ### The bit-reader commands -/

/-- ERR after an access of cursor `c` that leaves the cursor's error saying whether it failed. -/
theorem err_of_cursor {b : Bool} {k : Cursor} (h : k.err = b) :
    (if b then some ErrorKind.truncatedStream else none) = none ∨
      ((if b then some ErrorKind.truncatedStream else none) = some .truncatedStream ∧ k.err = true) := by
  cases b
  · exact .inl rfl
  · exact .inr ⟨rfl, h⟩

theorem overBytes_err (l a n : Nat) : (Cursor.overBytes l a n).err = decide (l < a + n) := by
  unfold Cursor.overBytes
  split
  · next h => simp [Cursor.failed, h]
  · next h => simp [h]

/-- Settles O22: the five shapes of a bit-reader command's outcome, each with its frame. -/
theorem bitReaderCommandsFrame : Obligations.BitReaderCommandsFrame := by
  intro i s t c hc ht
  have hother : ∀ (k : Cursor) (d : CursorIx), d ≠ c → (s.setCursor c k).cursor d = s.cursor d := fun k d hd =>
    State.cursor_setCursor_other s k hd
  rcases exec_bitReader_cases hc ht with
    ⟨w, r, rfl, -, hi⟩ | ⟨rfl, rfl⟩ | ⟨e, rfl, rfl⟩ | ⟨rfl, -, rfl⟩ | ⟨rfl, -, rfl⟩
  · have hres : i = .curopen c ∨ i = .align c ∨ i = .skip c ∨ (∃ e, i = .slice c e) → r = s.res := fun h => by
      rcases hi with hread | ⟨-, hr⟩
      · rcases h with rfl | rfl | rfl | ⟨e, rfl⟩ <;> cases hread
      · exact hr
    have hsize : i ≠ .size c := by
      rintro rfl
      rcases hi with hread | ⟨h | h, -⟩
      · cases hread
      · cases h
      · cases h
    refine ⟨rfl, hother _, hres, fun h => absurd h hsize, ?_⟩
    exact (err_of_cursor (k := (s.setCursor c ((s.cursor c).advance w)).cursor c) (by simp)).imp_right .inl
  · refine ⟨rfl, fun _ _ => rfl, fun h => ?_, fun _ => rfl, .inl rfl⟩
    rcases h with h | h | h | ⟨e, h⟩ <;> cases h
  · refine ⟨rfl, hother _, fun _ => rfl, nofun, ?_⟩
    exact (err_of_cursor (k := (s.setCursor c (s.cursor e).rest).cursor c) (by simp [Cursor.rest])).imp_right .inl
  · refine ⟨rfl, hother _, fun _ => rfl, nofun, ?_⟩
    have h := err_of_cursor (k := (s.setCursor c (Cursor.overBytes s.srcLen.toNat s.arg0.toNat s.arg1.toNat)).cursor c)
      ((congrArg Cursor.err (State.cursor_setCursor_self ..)).trans (overBytes_err ..))
    simp only [decide_eq_true_eq] at h
    exact h.imp_right .inl
  · exact ⟨rfl, fun _ _ => rfl, fun _ => rfl, nofun, .inr (.inr ⟨rfl, rfl⟩)⟩

/-! ### Cursors a command does not make -/

/-- Cursor `l` is `k` after any accesses: the same range, and unchanged once in error (R24, R25). -/
def SameRange (k l : Cursor) : Prop := l.base = k.base ∧ l.len = k.len ∧ (k.err = true → l = k)

theorem SameRange.refl (k : Cursor) : SameRange k k := ⟨rfl, rfl, fun _ => rfl⟩

variable {k l : Cursor} {s u : State} {c : CursorIx}

theorem SameRange.advance (n : Nat) (h : SameRange k l) : SameRange k (l.advance n) := by
  obtain ⟨hbase, hlen, herr⟩ := h
  refine ⟨by simp [hbase], by simp [hlen], fun hk => ?_⟩
  cases herr hk
  rw [Cursor.advance_blocked (Cursor.blocks_eq_true.2 (.inl hk)), ← hk]

/-- A property of cursor `c` that accesses of it keep; the stage commands access only cursors 0 to 5 (R25). -/
def KeptByAccess (R : Cursor → Prop) (c : CursorIx) : Prop := c.val ≤ 5 → ∀ k n, R k → R (k.advance n)

theorem sameRange_keptByAccess (k : Cursor) (c : CursorIx) : KeptByAccess (SameRange k) c := fun _ _ n h => h.advance n

theorem keptByAccess_of_unused {R : Cursor → Prop} (h : 5 < c.val) : KeptByAccess R c := fun h5 => absurd h (Nat.not_lt.2 h5)

variable {R : Cursor → Prop}

theorem setCursor_other_keeps {d : CursorIx} (hd : c ≠ d) (h : R (u.cursor c)) : R ((u.setCursor d l).cursor c) := by
  rwa [State.cursor_setCursor_other u l hd]

theorem KeptByAccess.setCursor {d : CursorIx} (hR : KeptByAccess R c) (hd : d.val ≤ 5) (n : Nat) (h : R (u.cursor c)) :
    R ((u.setCursor d ((u.cursor d).advance n)).cursor c) := by
  by_cases hcd : c = d
  · subst hcd
    rw [State.cursor_setCursor_self]
    exact hR hd _ n h
  · exact setCursor_other_keeps hcd h

theorem bitReader_keeps_range_of_others {i : Instr} {d : CursorIx} {t : State} (hd : bitReaderCursor i = some d)
    (ht : exec i s = .next t) (hm : makesCursor i c = false) : SameRange (s.cursor c) (t.cursor c) := by
  have hrefl := SameRange.refl (s.cursor c)
  rcases exec_bitReader_cases hd ht with ⟨w, r, rfl, -, -⟩ | ⟨-, rfl⟩ | ⟨e, rfl, rfl⟩ | ⟨rfl, -, rfl⟩ | ⟨-, -, rfl⟩
  · by_cases hcd : c = d
    · subst hcd
      have hself := State.cursor_setCursor_self s c ((s.cursor c).advance w)
      exact Eq.subst (motive := SameRange _) hself.symm (hrefl.advance w)
    · exact setCursor_other_keeps hcd hrefl
  · exact hrefl
  · exact setCursor_other_keeps (Ne.symm (by simpa [makesCursor] using hm)) hrefl
  · exact setCursor_other_keeps (Ne.symm (by simpa [makesCursor] using hm)) hrefl
  · exact hrefl

/-- DIRHDR clears cursors 1 to 5 (R161). -/
theorem State.cursor_startDirection (s : State) (i : Nat) (c : CursorIx) :
    (s.startDirection i).cursor c = if 1 ≤ c.val ∧ c.val ≤ 5 then Cursor.empty else s.cursor c := by
  fin_cases c <;> simp [State.cursor]

theorem dirhdr_writes_keep_others (h : 5 < c.val) : DirhdrKeeps fun u => R (u.cursor c) where
  start u i hu := by
    rw [State.cursor_startDirection, if_neg (by omega)]
    exact hu
  made _ _ _ hu := setCursor_other_keeps (by rintro rfl; simp at h) hu
  moved _ n hu := (keptByAccess_of_unused h).setCursor (by decide) n hu
  outSize _ _ hu := hu
  hasRaw _ _ hu := hu
  compEq _ _ hu := hu
  sels _ _ hu := hu
  frame _ _ _ hu := hu
  extents _ _ hu := hu
  stage _ hu := hu

theorem setup_writes_keep_others (hR : KeptByAccess R c) (h : c.val = 0 ∨ 5 < c.val) :
    SetupKeeps fun u => R (u.cursor c) where
  moved _ n hu := hR.setCursor (by decide) n hu
  carved _ _ _ h1 h5 hu := setCursor_other_keeps (by rintro rfl; omega) hu
  gw _ _ hu := hu
  gh _ _ hu := hu
  empty _ hu := hu
  stage _ hu := hu

theorem cell_writes_keep_cursors (hR : KeptByAccess R c) (j : Nat) : CellKeeps (fun u => R (u.cursor c)) j where
  moved _ _ n _ h4 hu := hR.setCursor (Nat.le_succ_of_le h4) n hu
  entry _ _ hu := hu
  last _ _ hu := hu
  record _ _ hu := hu

theorem prefixCmd_keeps_cursors (hR : KeptByAccess R c) : Keeps (fun u => R (u.cursor c)) prefixCmd :=
  Keeps.prefixCmd (fun _ n hu => hR.setCursor (by decide) n hu) (fun _ _ hu => hu) fun _ hu _ _ => hu

theorem pctCmd_keeps_cursors (hR : KeptByAccess R c) : Keeps (fun u => R (u.cursor c)) pctCmd :=
  Keeps.pctCmd (fun _ n hu => hR.setCursor (by decide) n hu) (fun _ _ hu => hu) fun _ hu => hu

theorem reconCmd_keeps_cursors (hR : KeptByAccess R c) : Keeps (fun u => R (u.cursor c)) reconCmd :=
  Keeps.reconCmd (cell_writes_keep_cursors hR) fun _ hu => hu

/-- DECODE makes cursors 0 to 5 and touches no other. -/
theorem decodeCmd_keeps_others (h : 5 < c.val) : Keeps (fun u => R (u.cursor c)) decodeCmd :=
  have hR : KeptByAccess R c := keptByAccess_of_unused h
  Keeps.bind (Keeps.dirhdrCmd (dirhdr_writes_keep_others h)) fun _ => Keeps.bind (prefixCmd_keeps_cursors hR) fun _ =>
    Keeps.bind (pctCmd_keeps_cursors hR) fun _ => Keeps.bind (Keeps.setupCmd (setup_writes_keep_others hR (.inr h))) fun _ =>
      reconCmd_keeps_cursors hR

theorem complete_keeps_cursor {g : CmdGroup} {x : Cmd Unit} {t : State}
    (h : Keeps (fun u => R (u.cursor c)) x) (hs : R (s.cursor c)) (ht : complete g x s = .next t) : R (t.cursor c) :=
  h.complete (fun _ _ hu => hu) (fun _ hu => hu) hs ht

theorem stage_keeps_range_of_others {i : Instr} {t : State} (hc : bitReaderCursor i = none) (ht : exec i s = .next t)
    (hm : makesCursor i c = false) : SameRange (s.cursor c) (t.cursor c) := by
  have hR := sameRange_keptByAccess (s.cursor c) c
  have hrefl := SameRange.refl (s.cursor c)
  rcases stageCommand_forms hc with rfl | rfl | rfl | rfl | rfl | rfl | rfl
  · exact complete_keeps_cursor (Keeps.openCmd (fun _ hu => hu) (fun _ _ hu => hu) (fun _ _ _ hu => hu) fun _ hu => hu) hrefl ht
  · exact complete_keeps_cursor (Keeps.dirhdrCmd (dirhdr_writes_keep_others (by simpa [makesCursor] using hm))) hrefl ht
  · exact complete_keeps_cursor (prefixCmd_keeps_cursors hR) hrefl ht
  · exact complete_keeps_cursor (pctCmd_keeps_cursors hR) hrefl ht
  · refine complete_keeps_cursor (Keeps.setupCmd (setup_writes_keep_others hR ?_)) hrefl ht
    simp only [makesCursor, decide_eq_false_iff_not] at hm
    omega
  · exact complete_keeps_cursor (reconCmd_keeps_cursors hR) hrefl ht
  · exact complete_keeps_cursor (decodeCmd_keeps_others (by simpa [makesCursor] using hm)) hrefl ht

/-- Settles O23: a command only moves the cursors it does not make. -/
theorem cursorsAreRemadeOnlyByMakers : Obligations.CursorsAreRemadeOnlyByMakers := by
  intro i s t c ht hm
  cases hd : bitReaderCursor i with
  | some d => exact bitReader_keeps_range_of_others hd ht hm
  | none => exact stage_keeps_range_of_others hd ht hm

end Sys2Proof.Machine

/-! PROOF of O48 (R26, R207, R225): the frames of RECON and DECODE. A write to a listed field leaves the equation of a frame true
with the write on both sides: `congrArg`. -/
namespace Sys2Proof.Machine

open Sys2Proof.Claims

/-- The fields RECON leaves (R207). -/
def ReconFrame (s u : State) : Prop :=
  u = { s with
    err := u.err
    stage := u.stage
    failed := u.failed
    cursors := u.cursors
    last := u.last
    log := u.log
    logCount := u.logCount
    map := u.map
    mapCount := u.mapCount }

/-- The fields DECODE leaves (R225). -/
def DecodeFrame (s u : State) : Prop :=
  u = { s with
    err := u.err
    stage := u.stage
    failed := u.failed
    cursors := u.cursors
    dirIdx := u.dirIdx
    outSize := u.outSize
    hasRaw := u.hasRaw
    compEq := u.compEq
    sels := u.sels
    extents := u.extents
    gw := u.gw
    gh := u.gh
    fh := u.fh
    sizes := u.sizes
    pctCount := u.pctCount
    pct := u.pct
    last := u.last
    log := u.log
    logCount := u.logCount
    map := u.map
    mapCount := u.mapCount }

variable {s : State}

theorem cell_writes_keep_reconFrame (k : Nat) : CellKeeps (ReconFrame s) k where
  moved u c n _ _ h := congrArg (State.setCursor · c ((u.cursor c).advance n)) h
  entry _ e h := congrArg (State.putEntry · e) h
  last _ j h := congrArg (State.setLast · k j) h
  record _ r h := congrArg (State.putRecord · r) h

theorem reconCmd_keeps_reconFrame : Keeps (ReconFrame s) reconCmd :=
  Keeps.reconCmd cell_writes_keep_reconFrame fun _ h => congrArg (fun v : State => ({ v with stage := .done } : State)) h

theorem cell_writes_keep_decodeFrame (k : Nat) : CellKeeps (DecodeFrame s) k where
  moved u c n _ _ h := congrArg (State.setCursor · c ((u.cursor c).advance n)) h
  entry _ e h := congrArg (State.putEntry · e) h
  last _ j h := congrArg (State.setLast · k j) h
  record _ r h := congrArg (State.putRecord · r) h

theorem dirhdr_writes_keep_decodeFrame : DirhdrKeeps (DecodeFrame s) where
  start _ i h := congrArg (State.startDirection · i) h
  made u a n h := congrArg (State.setCursor · cMain (Cursor.overBytes u.srcLen.toNat a n)) h
  moved u n h := congrArg (State.setCursor · cMain ((u.cursor cMain).advance n)) h
  outSize _ v h := congrArg (fun u : State => ({ u with outSize := v } : State)) h
  hasRaw _ v h := congrArg (fun u : State => ({ u with hasRaw := v } : State)) h
  compEq _ v h := congrArg (fun u : State => ({ u with compEq := v } : State)) h
  sels _ v h := congrArg (fun u : State => ({ u with sels := v } : State)) h
  frame _ f v h := congrArg (State.setFrame · f v) h
  extents _ v h := congrArg (fun u : State => ({ u with extents := v } : State)) h
  stage _ h := congrArg (fun u : State => ({ u with stage := .hdr } : State)) h

theorem setup_writes_keep_decodeFrame : SetupKeeps (DecodeFrame s) where
  moved u n h := congrArg (State.setCursor · cMain ((u.cursor cMain).advance n)) h
  carved _ d k _ _ h := congrArg (State.setCursor · d k) h
  gw _ v h := congrArg (fun u : State => ({ u with gw := v } : State)) h
  gh _ v h := congrArg (fun u : State => ({ u with gh := v } : State)) h
  empty _ h := congrArg State.emptyResults h
  stage _ h := congrArg (fun u : State => ({ u with stage := .setup } : State)) h

theorem decodeCmd_keeps_decodeFrame : Keeps (DecodeFrame s) decodeCmd := by
  have moved : ∀ (u : State) n, DecodeFrame s u → DecodeFrame s (u.setCursor cMain ((u.cursor cMain).advance n)) := fun u n h =>
    congrArg (State.setCursor · cMain ((u.cursor cMain).advance n)) h
  refine Keeps.bind (Keeps.dirhdrCmd dirhdr_writes_keep_decodeFrame) fun _ => ?_
  refine Keeps.bind (Keeps.prefixCmd moved (fun _ v h => congrArg (fun u : State => ({ u with sizes := v } : State)) h)
    fun _ h _ _ => congrArg (fun u : State => ({ u with stage := .prefixed } : State)) h) fun _ => ?_
  refine Keeps.bind (Keeps.pctCmd moved (fun _ j h => congrArg (State.putCode · j) h)
    fun _ h => congrArg (fun u : State => ({ u with stage := .pct } : State)) h) fun _ => ?_
  refine Keeps.bind (Keeps.setupCmd setup_writes_keep_decodeFrame) fun _ => ?_
  exact Keeps.reconCmd cell_writes_keep_decodeFrame fun _ h => congrArg (fun u : State => ({ u with stage := .done } : State)) h

/-! ### Cursors and slots -/

/-- Cursor `c` is not one of those RECON reads. -/
theorem cell_writes_keep_cursor {c : CursorIx} {l : Cursor} (hc : c.val = 0 ∨ 5 ≤ c.val) (k : Nat) :
    CellKeeps (fun u => u.cursor c = l) k where
  moved u d n h1 h4 h := by rwa [State.cursor_setCursor_other u _ (by rintro rfl; omega)]
  entry _ _ h := h
  last _ _ h := h
  record _ _ h := h

/-- The fields the covered cells are computed from. -/
def SameGrid (s u : State) : Prop := u.header = s.header ∧ u.fh = s.fh ∧ u.extents = s.extents ∧ u.gw = s.gw

theorem SameGrid.coveredCells {u : State} (h : SameGrid s u) (f : Nat) : u.coveredCells f = s.coveredCells f := by
  obtain ⟨-, hfh, hext, hgw⟩ := h
  have hframe : u.frame f = s.frame f := by rw [State.frame, hfh, ← State.frame]
  unfold State.coveredCells
  rw [hframe, hext, hgw]

theorem cell_writes_keep_slot {k j : Nat} {l : Option Word} (hk : k ≠ j) :
    CellKeeps (fun u => SameGrid s u ∧ u.lastEntry k = l) j where
  moved _ _ _ _ _ h := h
  entry _ _ h := h
  last _ _ h := ⟨h.1, by rw [State.lastEntry_setLast, if_neg hk]; exact h.2⟩
  record _ _ h := h

theorem reconCmd_keeps_uncovered {k : Nat} (hk : ∀ f, f < s.header.fpd.toNat → k ∉ s.coveredCells f) :
    Keeps (fun u => SameGrid s u ∧ u.lastEntry k = s.lastEntry k) reconCmd := by
  refine Keeps.reconCmd_covered (fun u f j hu hf hj => cell_writes_keep_slot ?_) (fun u t hu ht => ?_) fun _ h => h
  · rintro rfl
    rw [hu.1.coveredCells] at hj
    exact hk f (hu.1.1 ▸ hf) hj
  · rw [ht.1.1, hu.1.1]

theorem exec_recon_frame {t : State} (ht : exec .recon s = .next t) : ReconFrame s t :=
  (reconCmd_keeps_reconFrame (s := s)).complete (fun _ e h => congrArg (takeError .stage e) h) (fun _ h => congrArg succeed h)
    (show _ = _ from rfl) ht

theorem exec_decodeDir_frame {t : State} (ht : exec .decodeDir s = .next t) : DecodeFrame s t :=
  (decodeCmd_keeps_decodeFrame (s := s)).complete (fun _ e h => congrArg (takeError .stage e) h) (fun _ h => congrArg succeed h)
    (show _ = _ from rfl) ht

theorem exec_decodeDir_cursor {t : State} {c : CursorIx} (hc : 5 < c.val) (ht : exec .decodeDir s = .next t) :
    t.cursor c = s.cursor c :=
  complete_keeps_cursor (R := (· = s.cursor c)) (decodeCmd_keeps_others (R := (· = s.cursor c)) hc) rfl ht

/-- Settles O48: both frames, and the cursors and slots no write of the command is to. -/
theorem reconAndDecodeFrame : Obligations.ReconAndDecodeFrame := by
  refine ⟨fun s t ht => ⟨exec_recon_frame ht, fun c hc => ?_, fun k hk => ?_⟩, fun s t ht => ⟨exec_decodeDir_frame ht, ?_, ?_⟩⟩
  · exact (Keeps.reconCmd (cell_writes_keep_cursor hc) fun _ h => h).complete (fun _ _ h => h) (fun _ h => h) rfl ht
  · exact ((reconCmd_keeps_uncovered hk).complete (fun _ _ h => h) (fun _ h => h) ⟨⟨rfl, rfl, rfl, rfl⟩, rfl⟩ ht).2
  · exact exec_decodeDir_cursor (by decide) ht
  · exact exec_decodeDir_cursor (by decide) ht

end Sys2Proof.Machine

/-! PROOFS of O5, O8, O9, O12 and O13 (R20 to R23, R27, R28, R30 to R32, R34, R36, R37, R40 to R46, R51, R60, R76, R251): the
host's actions and what the host reads. -/
namespace Sys2Proof.Machine

open Sys2Proof.Claims

/-! ### Host actions -/

/-- One step is the host's next action at the state without it (R76). -/
theorem step_of_queue {s : State} {a : HostAction} {rest : List HostAction} (h : s.hostQueue = a :: rest) :
    step s = hostAct a { s with hostQueue := rest } := by
  unfold step
  rw [h]

theorem issue_of_decode {w : Word} {i : Instr} (h : decode w = .ok i) (s : State) : issue w s = exec i s := by
  rw [issue, h]

/-- Settles O5: a write to CMD issues the word's command. -/
theorem stepRunsDecodedCommand : Obligations.StepRunsDecodedCommand := fun _ _ _ _ hq hd =>
  (step_of_queue hq).trans (issue_of_decode hd _)

theorem hostWriteReg_ignored {no : Nat} (h0 : no ≠ 0) (h1 : no ≠ 1) (h2 : no ≠ 2) (h5 : no ≠ 5) (h6 : no ≠ 6) (v : DWord)
    (s : State) : hostWriteReg no v s = .next s := by
  unfold hostWriteReg
  split
  case _ => exact absurd rfl h0
  case _ => exact absurd rfl h1
  case _ => exact absurd rfl h2
  case _ => exact absurd rfl h5
  case _ => exact absurd rfl h6
  case _ => rfl

theorem writeSrcLen_taken {s : State} {v : Word} (hv : s.srcValid = false) (h : v.toNat ≤ s.params.srcCap) :
    s.writeSrcLen v = { s with srcLen := v } := by
  rw [State.writeSrcLen, if_neg]
  simpa [hv] using h

theorem writeSrcLen_ignored {s : State} {v : Word} (h : s.srcValid = true ∨ s.params.srcCap < v.toNat) :
    s.writeSrcLen v = s := by
  rw [State.writeSrcLen, if_pos]
  simpa using h

theorem writeSrcCtl_set {s : State} {v : Word} (h : v.getLsbD 0 = true) : s.writeSrcCtl v = { s with srcValid := true } := by
  rw [State.writeSrcCtl, if_pos h]

theorem writeSrcCtl_clear {s : State} {v : Word} (h : v.getLsbD 0 = false) :
    s.writeSrcCtl v = { s.release with srcValid := false } := by
  rw [State.writeSrcCtl, if_neg (by rw [h]; exact Bool.false_ne_true)]

/-- Settles O8: one equation per register, and one for all that ignore the write. -/
theorem hostRegisterWrites : Obligations.HostRegisterWrites := by
  intro s rest no v hq
  have hstep : step s = hostWriteReg no v { s with hostQueue := rest } := step_of_queue hq
  have hbit : (v.setWidth 32).getLsbD 0 = v.getLsbD 0 := by simp
  refine ⟨?_, ?_, ?_, ?_, ?_, ?_, fun h0 h1 h2 h5 h6 => hstep.trans (hostWriteReg_ignored h0 h1 h2 h5 h6 v _)⟩
  · rintro rfl
    exact hstep
  · rintro rfl
    exact hstep
  · rintro rfl hv hcap
    exact hstep.trans (congrArg Host.Outcome.next (writeSrcLen_taken (s := { s with hostQueue := rest }) hv hcap))
  · rintro rfl h
    exact hstep.trans (congrArg Host.Outcome.next (writeSrcLen_ignored (s := { s with hostQueue := rest }) h))
  · rintro rfl h
    exact hstep.trans (congrArg Host.Outcome.next (writeSrcCtl_set (s := { s with hostQueue := rest }) (hbit.trans h)))
  · rintro rfl h
    exact hstep.trans (congrArg Host.Outcome.next (writeSrcCtl_clear (s := { s with hostQueue := rest }) (hbit.trans h)))

/-- Settles O9: the three outcomes of a write through the table port. -/
theorem sourceMemoryWrites : Obligations.SourceMemoryWrites := by
  intro s rest space a v hq
  have hstep : step s = hostWriteTable space a v { s with hostQueue := rest } := step_of_queue hq
  refine ⟨fun h => ?_, fun h0 hv ha => ?_, fun h0 hv ha => ?_⟩
  · rw [hstep, hostWriteTable, if_pos h]
  · refine ⟨{ s with hostQueue := rest, src := Memory.setByte s.src a (v.setWidth 8) }, ?_, rfl,
      fun b => Memory.byte_setByte s.src a b (v.setWidth 8)⟩
    rw [hstep, hostWriteTable, if_neg (by simp [h0, hv]), if_neg (Nat.not_le.2 ha)]
  · rw [hstep, hostWriteTable, if_neg (by simp [h0, hv]), if_pos ha]

/-! ### Registers -/

theorem setWidth_ofBool (b : Bool) : (BitVec.ofBool b).setWidth 64 = if b then 1 else 0 := by
  cases b <;> rfl

/-- A bit vector put together of two has the number of the high part times the weight of the low part, plus the low part. -/
theorem toNat_append_eq_add {m n : Nat} (x : BitVec m) (y : BitVec n) : (x ++ y).toNat = 2 ^ n * x.toNat + y.toNat := by
  rw [BitVec.toNat_append, ← Nat.shiftLeft_add_eq_or_of_lt y.isLt, Nat.shiftLeft_eq, Nat.mul_comm]

/-- FLAGS as a number (R36). -/
theorem flagsField_toNat (hasRaw compEq : Bool) : (flagsField hasRaw compEq).toNat = hasRaw.toNat + 2 * compEq.toNat := by
  rw [flagsField, toNat_append_eq_add, BitVec.toNat_ofBool, BitVec.toNat_ofBool, Nat.pow_one, Nat.add_comm]

/-- SELS as a number (R37). -/
theorem selsField_toNat (x : Selectors) : (selsField x).toNat = x.var0.toNat + 2 ^ 4 * x.width.toNat + 2 ^ 8 * x.height.toNat
    + 2 ^ 12 * x.xoff.toNat + 2 ^ 16 * x.yoff.toNat + 2 ^ 20 * x.optb.toNat + 2 ^ 24 * x.codedb.toNat := by
  simp only [selsField, toNat_append_eq_add]
  omega

theorem setWidth_eq_ofNat {w n : Nat} {x : BitVec w} (h : x.toNat = n) : x.setWidth 64 = BitVec.ofNat 64 n := by
  rw [← h, BitVec.ofNat_toNat]

/-- CERR is the cursors' error bits in order (R28). -/
theorem cerrField_getLsbD (cs : Vector Cursor 8) (c : CursorIx) : (cerrField cs).getLsbD c.val = cs[c].err := by
  fin_cases c <;> simp only [cerrField, BitVec.getLsbD_append, BitVec.getLsbD_ofBool] <;> simp

/-- STATUS as a number: ERR, STAGE, FAILED and CERR from bit 0 up, and nothing above (R28). -/
theorem statusWord_toNat (s : State) : (statusWord s).toNat =
    (errField s.err).toNat + 2 ^ 4 * (stageField s.stage).toNat + 2 ^ 7 * s.failed.toNat
      + 2 ^ 8 * (cerrField s.cursors).toNat := by
  simp only [statusWord, toNat_append_eq_add, BitVec.toNat_ofBool, BitVec.toNat_zero]
  omega

/-- The fields of STATUS as the host reads them. -/
theorem status_fields (s : State) :
    (readReg s 4).extractLsb' 0 4 = errField s.err ∧ (readReg s 4).extractLsb' 4 3 = stageField s.stage ∧
    (readReg s 4).getLsbD 7 = s.failed ∧ (∀ c : CursorIx, (readReg s 4).getLsbD (8 + c.val) = (s.cursor c).err) ∧
    (readReg s 4).getLsbD 16 = false ∧ (readReg s 4).extractLsb' 17 47 = 0 := by
  have hread : (readReg s 4).toNat = (statusWord s).toNat :=
    BitVec.toNat_setWidth_of_le (by decide)
  have hn := hread.trans (statusWord_toNat s)
  have he := (errField s.err).isLt
  have hg := (stageField s.stage).isLt
  have hf := Bool.toNat_lt s.failed
  have hc := (cerrField s.cursors).isLt
  have hbit : ∀ i, (readReg s 4).getLsbD i = decide ((readReg s 4).toNat / 2 ^ i % 2 = 1) := fun i =>
    Nat.testBit_eq_decide_div_mod_eq
  refine ⟨BitVec.eq_of_toNat_eq ?_, BitVec.eq_of_toNat_eq ?_, ?_, fun c => ?_, ?_, BitVec.eq_of_toNat_eq ?_⟩
  · rw [BitVec.extractLsb'_toNat, hn, Nat.shiftRight_eq_div_pow]
    omega
  · rw [BitVec.extractLsb'_toNat, hn, Nat.shiftRight_eq_div_pow]
    omega
  · have hmod : (readReg s 4).toNat / 2 ^ 7 % 2 = s.failed.toNat := by omega
    rw [hbit, hmod]
    cases s.failed <;> rfl
  · have hhigh : (readReg s 4).toNat / 2 ^ 8 = (cerrField s.cursors).toNat := by omega
    rw [State.cursor, ← cerrField_getLsbD, Nat.add_comm]
    exact (Nat.testBit_div_two_pow ..).symm.trans (congrArg (Nat.testBit · c.val) hhigh)
  · rw [hbit, decide_eq_false_iff_not]
    omega
  · rw [BitVec.extractLsb'_toNat, hn, Nat.shiftRight_eq_div_pow]
    show _ = 0
    omega

/-- From register 0x21 on only the cursor registers are mapped (R21). -/
theorem readReg_above {s : State} {no : Nat} (h : 0x20 < no) : readReg s no =
    if 0x28 ≤ no ∧ no < 0x48 then cursorField (s.cursor (Fin.ofNat 8 ((no - 0x28) / 4))) ((no - 0x28) % 4) else 0 := by
  unfold readReg
  split
  case h_31 => rfl
  all_goals exact absurd h (by decide)

/-- The four registers of cursor `c` (R21). -/
theorem readReg_cursor (s : State) (c : CursorIx) {field : Nat} (hf : field < 4) :
    readReg s (0x28 + field + 4 * c.val) = cursorField (s.cursor c) field := by
  have hc := c.isLt
  have hdiv : (0x28 + field + 4 * c.val - 0x28) / 4 = c.val := by omega
  have hmod : (0x28 + field + 4 * c.val - 0x28) % 4 = field := by omega
  rw [readReg_above (by omega), if_pos (by omega), hdiv, hmod, Fin.ofNat_val_eq_self]

theorem readReg_reserved {s : State} {no : Nat} (h : (0x21 ≤ no ∧ no ≤ 0x27) ∨ 0x48 ≤ no) : readReg s no = 0 := by
  rw [readReg_above (by omega), if_neg (by omega)]

/-- Settles O12: the codes one by one, STATUS by its fields, the other registers by the map. -/
theorem statusRegisterLayout : Obligations.StatusRegisterLayout := by
  refine ⟨⟨rfl, rfl, rfl, rfl, rfl, rfl, rfl, rfl, rfl, rfl⟩, ⟨rfl, rfl, rfl, rfl, rfl, rfl, rfl⟩, fun s => ⟨status_fields s, ?_⟩⟩
  refine ⟨⟨rfl, rfl, rfl, rfl, setWidth_ofBool _⟩, ⟨rfl, rfl, rfl, rfl, rfl, rfl, rfl⟩, ⟨rfl, rfl, ?_, ?_⟩,
    ⟨rfl, rfl, rfl, rfl, rfl, rfl⟩, ⟨rfl, rfl, rfl, rfl, rfl, rfl, rfl⟩, fun c => ?_, fun no hno => ?_⟩
  · exact setWidth_eq_ofNat (flagsField_toNat ..)
  · exact setWidth_eq_ofNat (selsField_toNat ..)
  · exact ⟨readReg_cursor s c (field := 0) (by decide), readReg_cursor s c (field := 1) (by decide),
      readReg_cursor s c (field := 2) (by decide), (readReg_cursor s c (field := 3) (by decide)).trans (setWidth_ofBool _)⟩
  · rcases hno with rfl | rfl | rfl | hno
    · rfl
    · rfl
    · rfl
    · exact readReg_reserved hno

/-- Settles O13: the port's bound on the index decides between the entry's field and 0. -/
theorem tablePortReads : Obligations.TablePortReads := by
  intro s
  have past : ∀ {i n : Nat} {v : DWord}, n ≤ i → (if i < n then v else 0) = 0 := fun h => if_neg (Nat.not_lt.2 h)
  have inside : ∀ {i n : Nat} {v : DWord}, i < n → (if i < n then v else 0) = v := fun h => if_pos h
  refine ⟨⟨fun _ => past, fun _ => past, fun _ _ => past, fun _ => past, fun _ => past, fun _ _ => past, fun _ _ => past⟩,
    ⟨fun _ => inside, fun _ => inside, fun _ => inside⟩, fun f hf => ?_, ⟨fun k hk hl => ?_, fun k j hk hl => ?_⟩,
    fun j hj => ⟨fun i => ?_, inside hj, inside hj⟩, fun j hj => ?_⟩
  · exact ⟨inside hf, inside hf, inside hf, inside hf, inside hf, inside hf, inside hf, (inside hf).trans (setWidth_ofBool _),
      inside hf, inside hf, inside hf, inside hf⟩
  · exact (inside hk).trans (by rw [hl]; rfl)
  · exact (inside hk).trans (by rw [hl]; rfl)
  · refine (inside hj).trans ?_
    fin_cases i <;> rfl
  · exact ⟨inside hj, inside hj, inside hj, (inside hj).trans (setWidth_ofBool _)⟩

end Sys2Proof.Machine

/-! PROOF of O24 (R33, R90, R91, R141, R144): OPEN of a well-formed file runs without an error, writing the header registers one
by one, then OFFT[0 .. DIRCNT − 1] from the file and OFFT[DIRCNT] = SRCLEN. -/
namespace Sys2Proof.Machine

open Sys2Proof.Claims

/-- A command that cannot raise ends. -/
theorem Meets.ends {α : Type} {P : State → Prop} {x : Cmd α} {Q : α → State → Prop} {s : State}
    (h : Meets P x Q fun _ _ => False) (hs : P s) : ∃ a t, x.run s = .ok a t ∧ Q a t := by
  have hx := h s hs
  revert hx
  cases x.run s with
  | ok a t => exact fun hq => ⟨a, t, rfl, hq⟩
  | error e t => exact False.elim

/-! ### The header -/

/-- OPEN on `s` with the header registers `h` so far. -/
def State.parsing (s : State) (h : FileHeader) : State := { s.release with header := h }

theorem run_putHeader_parsing (g : Memory → FileHeader → FileHeader) (y : Unit → Cmd Unit) (s : State) (h : FileHeader) :
    (putHeader g >>= y).run (s.parsing h) = (y ()).run (s.parsing (g s.src h)) := rfl

theorem run_need_pass {a n : Nat} {y : Unit → Cmd Unit} {s : State} (h : a + n ≤ s.srcLen.toNat) :
    (need a n >>= y).run s = (y ()).run s :=
  run_raiseWhen_pass (decide_eq_false (Nat.not_lt.2 h))

theorem run_need_parsing {a n : Nat} {y : Unit → Cmd Unit} {s : State} {h : FileHeader} (hl : a + n ≤ s.srcLen.toNat) :
    (need a n >>= y).run (s.parsing h) = (y ()).run (s.parsing h) :=
  run_need_pass hl

/-- Three zero bytes read as 0 (R143). -/
theorem memRead_reserved {m : Memory} (h7 : Memory.byte m 7 = 0) (h8 : Memory.byte m 8 = 0) (h9 : Memory.byte m 9 = 0) :
    memRead m 7 3 = 0 := by
  simp [memRead, h7, h8, h9]

theorem signatureMatches_of_legal {s : State} (h : headerLegal s) : signatureMatches s.params.signature s.src = true := by
  obtain ⟨h0, h1, h2, h3, -⟩ := h
  simp [signatureMatches, h0, h1, h2, h3]

/-- What OPEN does after the fixed header: the offset table, its check and the stage (R144, R145). -/
def openTable : Cmd Unit := do
  withState fun s => forBelow s.header.dirCnt.toNat readOffset
  write fun s => s.setOffset s.header.dirCnt.toNat s.srcLen
  withState fun s => forBelow s.header.dirCnt.toNat checkOffset
  write fun s => { s with stage := .opened }

theorem openCmd_header {s : State} (hv : s.srcValid = true) (hl : headerLegal s) (hlen : 18 ≤ s.srcLen.toNat) :
    openCmd.run s = openTable.run (s.parsing (fileHeaderOf s.src)) := by
  have hsig := signatureMatches_of_legal hl
  obtain ⟨-, -, -, -, h7, h8, h9⟩ := hl
  have hrsv : BitVec.ofNat 24 (memRead s.src 7 3) = 0 := by rw [memRead_reserved h7 h8 h9]; rfl
  unfold openCmd
  rw [run_write_bind, run_raiseWhen_pass (by simpa using hv)]
  show EStateM.run _ (s.parsing s.header) = _
  rw [run_need_parsing (by omega), run_putHeader_parsing, run_raiseWhen_pass (by simpa [State.parsing] using hsig),
    run_need_parsing (by omega), run_putHeader_parsing, run_need_parsing (by omega), run_putHeader_parsing,
    run_need_parsing (by omega), run_putHeader_parsing, run_need_parsing (by omega), run_putHeader_parsing, hrsv,
    run_raiseWhen_pass rfl, run_need_parsing (by omega), run_putHeader_parsing, run_need_parsing (by omega),
    run_putHeader_parsing]
  rfl

/-! ### The offset table -/

theorem fileOffset_toNat (m : Memory) (i : Nat) : (fileOffset m i).toNat = memRead m (18 + 4 * i) 4 := by
  rw [fileOffset, BitVec.toNat_ofNat, Nat.mod_eq_of_lt (memRead_lt m _ 4)]

/-- The first `j` offsets are read: OFFT[i] for i < j from the file, the others as in `s`, and nothing else written. -/
def OffsetsRead (s : State) (j : Nat) (t : State) : Prop :=
  t = { s with offt := t.offt } ∧ ∀ i, t.offset i = if i < j then fileOffset s.src i else s.offset i

variable {s t : State}

theorem OffsetsRead.next {j : Nat} (h : OffsetsRead s j t) : OffsetsRead s (j + 1) (t.setOffset j (fileOffset t.src j)) := by
  obtain ⟨hframe, hoff⟩ := h
  have hsrc : t.src = s.src := by rw [hframe]
  refine ⟨congrArg (State.setOffset · j (fileOffset t.src j)) hframe, fun i => ?_⟩
  rw [State.offset_setOffset, hoff, hsrc]
  rcases Nat.lt_trichotomy i j with hi | rfl | hi
  · rw [if_neg (Nat.ne_of_lt hi), if_pos hi, if_pos (Nat.lt_succ_of_lt hi)]
  · rw [if_pos rfl, if_pos (Nat.lt_succ_self i)]
  · rw [if_neg (Nat.ne_of_gt hi), if_neg (Nat.not_lt.2 (Nat.le_of_lt hi)), if_neg (Nat.not_lt.2 hi)]

theorem readOffsets_meets {n : Nat} (hlen : 18 + 4 * n ≤ s.srcLen.toNat) :
    Meets (fun t => t = s) (forBelow n readOffset) (fun _ => OffsetsRead s n) fun _ _ => False := by
  have hloop := Meets.forBelow (I := OffsetsRead s) (body := readOffset) (E := fun _ _ => False) n fun j hj => ?_
  · exact hloop.weaken (fun t ht => ht ▸ ⟨rfl, fun i => (if_neg (Nat.not_lt_zero i)).symm⟩) (fun _ _ h => h) fun _ _ h => h
  · refine Meets.andThen (Meets.raiseWhen (fun _ ht _ => ht) fun t ht hneed => ?_) fun _ => Meets.write fun _ ht => ht.next
    have hl : t.srcLen = s.srcLen := by rw [ht.1]
    have hlt := of_decide_eq_true hneed
    rw [hl] at hlt
    omega

theorem run_checkOffsets {n : Nat} (h : ∀ i, i < n → (t.offset i).toNat < (t.offset (i + 1)).toNat) :
    (forBelow n checkOffset).run t = .ok () t := by
  induction n with
  | zero => rfl
  | succ n ih =>
    have hn : decide ((t.offset (n + 1)).toNat ≤ (t.offset n).toNat) = false :=
      decide_eq_false (Nat.not_le.2 (h n (Nat.lt_succ_self n)))
    refine (run_bind_ok (ih fun i hi => h i (Nat.lt_succ_of_lt hi))).trans ?_
    rw [checkOffset, run_raiseWhen, hn]
    rfl

/-- The whole table as OPEN leaves it: the file's offsets and SRCLEN behind them (R91). -/
def TableRead (s : State) (n : Nat) (t : State) : Prop :=
  t = { s with offt := t.offt } ∧ (∀ i, i ≤ n → (t.offset i).toNat = fileOffsets s.src s.srcLen.toNat n i) ∧
    ∀ i, n < i → t.offset i = s.offset i

theorem OffsetsRead.table {n : Nat} (h : OffsetsRead s n t) : TableRead s n (t.setOffset n s.srcLen) := by
  obtain ⟨hframe, hoff⟩ := h
  refine ⟨congrArg (State.setOffset · n s.srcLen) hframe, fun i hi => ?_, fun i hi => ?_⟩
  · rw [State.offset_setOffset, fileOffsets]
    split
    · next he => rw [he, if_neg (Nat.lt_irrefl n)]
    · next hne =>
      have hlt := Nat.lt_of_le_of_ne hi hne
      rw [hoff, if_pos hlt, if_pos hlt, fileOffset_toNat]
  · rw [State.offset_setOffset, if_neg (Nat.ne_of_gt hi), hoff, if_neg (Nat.not_lt.2 (Nat.le_of_lt hi))]

theorem openTable_run {n : Nat} (hn : s.header.dirCnt.toNat = n) (hlen : 18 + 4 * n ≤ s.srcLen.toNat)
    (hord : ∀ i, i < n → fileOffsets s.src s.srcLen.toNat n i < fileOffsets s.src s.srcLen.toNat n (i + 1)) :
    ∃ t, openTable.run s = .ok () { t with stage := .opened } ∧ TableRead s n t := by
  obtain ⟨_, u, hrun, hu⟩ := (readOffsets_meets hlen).ends rfl
  have hcnt : u.header.dirCnt.toNat = n := by rw [hu.1]; exact hn
  have hl : u.srcLen = s.srcLen := by rw [hu.1]
  have hcnt' : (u.setOffset n s.srcLen).header.dirCnt.toNat = n := hcnt
  have htable := hu.table
  refine ⟨u.setOffset n s.srcLen, ?_, htable⟩
  have hcheck := run_checkOffsets (t := u.setOffset n s.srcLen) (n := n) fun i hi => by
    rw [htable.2.1 i (Nat.le_of_lt hi), htable.2.1 (i + 1) hi]
    exact hord i hi
  unfold openTable
  rw [run_withState_bind, hn, run_bind_ok hrun, run_write_bind, hcnt, hl, run_withState_bind, hcnt',
    run_bind_ok hcheck, run_write]

/-- Settles O24: the header, then the table. -/
theorem openParsesHeader : Obligations.OpenParsesHeader := by
  intro s n hn hv hl hlen hord
  obtain ⟨t, hrun, hframe, htable, habove⟩ := openTable_run (s := s.parsing (fileHeaderOf s.src)) hn hlen hord
  refine ⟨succeed { t with stage := .opened }, ?_, ?_, htable, habove⟩
  · exact complete_ok ((openCmd_header hv hl (by omega)).trans hrun)
  · exact congrArg (fun u => succeed ({ u with stage := .opened } : State)) hframe

end Sys2Proof.Machine

/-! What DIRHDR reads of a direction's bits, for O33 (R160, R163, R164): while cursor 0 is at position `q` of the direction, every
field that ends by `q` is the stream's and every other is 0; a read that is refused leaves it so, as no field ends between `q` and
the direction's end. -/
namespace Sys2Proof.Machine

open Sys2Proof.Claims

variable {m : Memory} {b q p w N n f : Nat} {x : Selectors} {s u : State}

/-! ### A field of a direction of which `q` bits are read -/

theorem fieldWithin_of_le (h : p + w ≤ q) : fieldWithin m b q p w = fieldAt m (b + p) w := if_pos h

theorem fieldWithin_of_lt (h : q < p + w) : fieldWithin m b q p w = 0 := if_neg (Nat.not_le.2 h)

/-- A field from `q` on: not read, or of width 0. -/
theorem fieldWithin_of_ge (h : q ≤ p) : fieldWithin m b q p w = 0 := by
  rcases Nat.eq_zero_or_pos w with rfl | hw
  · exact ite_self _
  · exact fieldWithin_of_lt (by omega)

theorem fieldWithin_lt_two_pow : fieldWithin m b q p w < 2 ^ w := by
  unfold fieldWithin
  split
  · exact fieldAt_lt ..
  · exact Nat.two_pow_pos w

/-- Sign extension is what a signed value stands for (R105). -/
theorem ofInt_signedValue {v : Nat} (h : v < 2 ^ w) : BitVec.ofInt 32 (signedValue v w) = (BitVec.ofNat w v).signExtend 32 := by
  have hv : (BitVec.ofNat w v).toNat = v := by rw [BitVec.toNat_ofNat, Nat.mod_eq_of_lt h]
  have hmsb : (BitVec.ofNat w v).msb = (decide (0 < w) && v.testBit (w - 1)) := by
    rw [BitVec.msb_eq_getLsbD_last, BitVec.getLsbD_ofNat]
    rcases Nat.eq_zero_or_pos w with rfl | hw
    · simp_all
    · simp [hw]
  rw [BitVec.signExtend, BitVec.toInt_eq_msb_cond, hmsb, hv, signedValue]
  rcases Nat.eq_zero_or_pos w with rfl | hw
  · simp_all
  · rw [if_neg (Nat.ne_of_gt hw)]
    simp [hw]

/-! ### Reading the next field -/

/-- Cursor 0 is at position `q` of the direction of `N` bits at bit address `b` of the memory `m` (R160). -/
structure ReadTo (m : Memory) (b N q : Nat) (s : State) : Prop where
  le : q ≤ N
  src : s.src = m
  base : (s.cursor cMain).base.toNat = b
  pos : (s.cursor cMain).pos.toNat = q
  len : (s.cursor cMain).len.toNat = N
  err : (s.cursor cMain).err = false

theorem ReadTo.blocks (h : ReadTo m b N q s) : (s.cursor cMain).blocks w = decide (N < q + w) := by
  rw [Cursor.blocks, h.err, h.len, h.pos, Bool.false_or]

theorem ReadTo.advance (h : ReadTo m b N q s) (hw : q + w ≤ N) :
    ReadTo m b N (q + w) (s.setCursor cMain ((s.cursor cMain).advance w)) := by
  have hb : (s.cursor cMain).blocks w = false := h.blocks.trans (decide_eq_false (Nat.not_lt.2 hw))
  have hc := State.cursor_setCursor_self s cMain ((s.cursor cMain).advance w)
  exact ⟨hw, h.src, by rw [hc, Cursor.advance_base, h.base], by rw [hc, Cursor.advance_pos hb, h.pos],
    by rw [hc, Cursor.advance_len, h.len], by rw [hc, Cursor.advance_err, hb]⟩

theorem ReadTo.of_same (h : ReadTo m b N q s) (hk : u.src = s.src ∧ u.cursors = s.cursors) : ReadTo m b N q u := by
  have hc : u.cursor cMain = s.cursor cMain := by rw [State.cursor, hk.2, ← State.cursor]
  exact ⟨h.le, hk.1.trans h.src, hc ▸ h.base, hc ▸ h.pos, hc ▸ h.len, hc ▸ h.err⟩

/-- A read into a state element from a known position: `C` becomes `D` with the stream's field, and a refused read, of a field
that ends past the direction, leaves `C`. -/
theorem readInto_at {g : Nat → State → State} {C D : State → Prop} {E : ErrorKind → State → Prop}
    (hmoved : ∀ s k, C s → C (s.setCursor cMain k)) (hkept : ∀ v s, (g v s).src = s.src ∧ (g v s).cursors = s.cursors)
    (hread : ∀ s, q + w ≤ N → C s → D (g (fieldAt m (b + q) w) s)) (hcut : ∀ s, q ≤ N → N < q + w → C s → E .truncatedStream s) :
    Meets (fun s => ReadTo m b N q s ∧ C s) (readInto w g) (fun _ s => ReadTo m b N (q + w) s ∧ D s) E := by
  rintro s ⟨hs, hC⟩
  rw [readInto, run_bind]
  rcases readOrFail_cases cMain w s with ⟨hb, hrun⟩ | ⟨hb, hrun⟩
  · have hw : q + w ≤ N := Nat.not_lt.1 (of_decide_eq_false (hs.blocks.symm.trans hb))
    rw [hrun, hs.src, hs.base, hs.pos]
    exact ⟨(hs.advance hw).of_same (hkept ..), hread _ hw (hmoved _ _ hC)⟩
  · rw [hrun]
    exact hcut _ hs.le (of_decide_eq_true (hs.blocks.symm.trans hb)) (hmoved _ _ hC)

/-! ### The direction header -/

/-- The registers of the direction header hold its fields that end by `q` (R93, R163). -/
def HeaderFields (m : Memory) (b q : Nat) (u : State) : Prop :=
  u.outSize = BitVec.ofNat 32 (fieldWithin m b q 0 32) ∧ u.hasRaw = decide (fieldWithin m b q 32 1 = 1) ∧
    u.compEq = decide (fieldWithin m b q 33 1 = 1) ∧ u.sels = selectorsWithin m b q

/-- The frame header at position `p` with its fields that end by `q`, without extents (R96). -/
def partFrame (m : Memory) (b q p : Nat) (x : Selectors) : FrameHeader where
  var0 := BitVec.ofNat 32 (fieldWithin m b q p (selWidth x.var0))
  width := BitVec.ofNat 32 (fieldWithin m b q (p + selWidth x.var0) (selWidth x.width))
  height := BitVec.ofNat 32 (fieldWithin m b q (p + selWidth x.var0 + selWidth x.width) (selWidth x.height))
  xoff := BitVec.ofInt 32 (signedValue
    (fieldWithin m b q (p + selWidth x.var0 + selWidth x.width + selWidth x.height) (selWidth x.xoff)) (selWidth x.xoff))
  yoff := BitVec.ofInt 32 (signedValue
    (fieldWithin m b q (p + selWidth x.var0 + selWidth x.width + selWidth x.height + selWidth x.xoff) (selWidth x.yoff))
    (selWidth x.yoff))
  optb := BitVec.ofNat 32 (fieldWithin m b q (p + optbAt x) (selWidth x.optb))
  codedb := BitVec.ofNat 32 (fieldWithin m b q (p + optbAt x + selWidth x.optb) (selWidth x.codedb))
  bottomUp := decide (fieldWithin m b q (p + optbAt x + selWidth x.optb + selWidth x.codedb) 1 = 1)
  fxmin := 0
  fxmax := 0
  fymin := 0
  fymax := 0

/-- The same with its extents once the whole header is read (R164, R166). -/
def frameWithin (m : Memory) (b q p : Nat) (x : Selectors) : FrameHeader :=
  if p + frameHeaderWidth x ≤ q then frameExtents (partFrame m b q p x) else partFrame m b q p x

theorem fieldsWithin_frameWithin : FieldsWithin m b q p x (frameWithin m b q p x) := by
  unfold frameWithin
  split
  · next h =>
    exact ⟨rfl, rfl, rfl, ofInt_signedValue fieldWithin_lt_two_pow, ofInt_signedValue fieldWithin_lt_two_pow, rfl, rfl, rfl,
      fun _ => rfl, fun h' => absurd h (Nat.not_le.2 h')⟩
  · next h =>
    exact ⟨rfl, rfl, rfl, ofInt_signedValue fieldWithin_lt_two_pow, ofInt_signedValue fieldWithin_lt_two_pow, rfl, rfl, rfl,
      fun h' => absurd h' h, fun _ => ⟨rfl, rfl, rfl, rfl⟩⟩

/-- No field of a frame header is read before it begins. -/
theorem frameWithin_of_ge (h : q ≤ p) : frameWithin m b q p x = FrameHeader.zero := by
  have hw : 1 ≤ frameHeaderWidth x := Nat.succ_le_succ (Nat.zero_le _)
  rw [frameWithin, if_neg (by omega)]
  simp (disch := omega) only [partFrame, fieldWithin_of_ge]
  simp [FrameHeader.zero, signedValue]

/-- A whole frame header stays as it is when more is read. -/
theorem frameWithin_of_le (h : p + frameHeaderWidth x ≤ q) (hN : q ≤ N) : frameWithin m b N p x = frameWithin m b q p x := by
  rw [frameWithin, if_pos (Nat.le_trans h hN), frameWithin, if_pos h]
  unfold frameHeaderWidth at h
  simp (disch := omega) only [partFrame, optbAt, fieldWithin_of_le]

/-! ### Reading the direction header -/

/-- Where frame `f`'s header begins (R97). -/
def frameStart (x : Selectors) (f : Nat) : Nat := 62 + f * frameHeaderWidth x

/-- The direction header and the frame headers of a direction of `N` bits hold the fields it has, and no other (R160, R161). -/
def DirectionWithin (m : Memory) (b N : Nat) (u : State) : Prop :=
  HeaderFields m b N u ∧ ∀ f, f < u.header.fpd.toNat → u.frame f = frameWithin m b N (frameStart u.sels f) u.sels

/-- The direction header is read up to position `q`, no frame header yet. -/
def HeaderReadTo (m : Memory) (b n q : Nat) (u : State) : Prop := u.header.fpd.toNat = n ∧ HeaderFields m b q u ∧ u.fh = []

theorem HeaderReadTo.frame (h : HeaderReadTo m b n q u) : u.frame f = FrameHeader.zero := by rw [State.frame, h.2.2]; rfl

/-- Where the fields of the direction header end (R93). -/
def headerFieldEnds : List Nat := [32, 33, 34, 38, 42, 46, 50, 54, 58, 62]

/-- The fields that end by `q` are those of the direction if no field ends between. -/
theorem HeaderFields.cut (h : HeaderFields m b q u) (hq : q ≤ N) (hends : ∀ e ∈ headerFieldEnds, e ≤ q ∨ N < e) :
    HeaderFields m b N u := by
  have same : ∀ p w, p + w ∈ headerFieldEnds → fieldWithin m b q p w = fieldWithin m b N p w := fun p w he => by
    rcases hends _ he with h | h
    · rw [fieldWithin_of_le h, fieldWithin_of_le (Nat.le_trans h hq)]
    · rw [fieldWithin_of_lt h, fieldWithin_of_lt (Nat.lt_of_le_of_lt hq h)]
  have hsels : selectorsWithin m b q = selectorsWithin m b N := by
    simp (disch := decide) only [selectorsWithin, same]
  obtain ⟨hsize, hraw, heq, hs⟩ := h
  exact ⟨by rw [hsize, same _ _ (by decide)], by rw [hraw, same _ _ (by decide)], by rw [heq, same _ _ (by decide)],
    by rw [hs, hsels]⟩

/-- A refused read of the direction header leaves what the direction has of it, and no frame header. -/
theorem HeaderReadTo.directionWithin (h : HeaderReadTo m b n q u) (hq : q ≤ N) (hcut : N < q + w) (h62 : q + w ≤ 62)
    (hends : ∀ e ∈ headerFieldEnds, e ≤ q ∨ q + w ≤ e) : DirectionWithin m b N u := by
  refine ⟨h.2.1.cut hq fun e he => (hends e he).imp_right (Nat.lt_of_lt_of_le hcut), fun f _ => ?_⟩
  rw [h.frame, frameWithin_of_ge]
  exact Nat.le_trans (Nat.le_of_lt (Nat.lt_of_lt_of_le hcut h62)) (Nat.le_add_right ..)

theorem readHeader_at {g : Nat → State → State} (hpos : q + w ≤ 62 ∧ ∀ e ∈ headerFieldEnds, e ≤ q ∨ q + w ≤ e)
    (hkept : ∀ v s, (g v s).src = s.src ∧ (g v s).cursors = s.cursors ∧ (g v s).header = s.header ∧ (g v s).fh = s.fh)
    (hread : ∀ s, HeaderFields m b q s → HeaderFields m b (q + w) (g (fieldAt m (b + q) w) s)) :
    Meets (fun s => ReadTo m b N q s ∧ HeaderReadTo m b n q s) (readInto w g)
      (fun _ s => ReadTo m b N (q + w) s ∧ HeaderReadTo m b n (q + w) s) (fun _ => DirectionWithin m b N) :=
  readInto_at (fun _ _ h => h) (fun v s => ⟨(hkept v s).1, (hkept v s).2.1⟩)
    (fun s _ ⟨hn, hh, hfh⟩ => ⟨(hkept _ s).2.2.1 ▸ hn, hread s hh, (hkept _ s).2.2.2.trans hfh⟩)
    fun _ hN hcut h => h.directionWithin hN hcut hpos.1 hpos.2

theorem readDirectionHeader_at : Meets (fun s => ReadTo m b N 0 s ∧ HeaderReadTo m b n 0 s) readDirectionHeader
    (fun _ s => ReadTo m b N 62 s ∧ HeaderReadTo m b n 62 s) (fun _ => DirectionWithin m b N) := by
  refine Meets.bind (readHeader_at (by decide) (fun _ _ => ⟨rfl, rfl, rfl, rfl⟩) fun s h => ?_) fun _ =>
    Meets.bind (readHeader_at (by decide) (fun _ _ => ⟨rfl, rfl, rfl, rfl⟩) fun s h => ?_) fun _ =>
    Meets.bind (readHeader_at (by decide) (fun _ _ => ⟨rfl, rfl, rfl, rfl⟩) fun s h => ?_) fun _ =>
    Meets.bind (readHeader_at (by decide) (fun _ _ => ⟨rfl, rfl, rfl, rfl⟩) fun s h => ?_) fun _ =>
    Meets.bind (readHeader_at (by decide) (fun _ _ => ⟨rfl, rfl, rfl, rfl⟩) fun s h => ?_) fun _ =>
    Meets.bind (readHeader_at (by decide) (fun _ _ => ⟨rfl, rfl, rfl, rfl⟩) fun s h => ?_) fun _ =>
    Meets.bind (readHeader_at (by decide) (fun _ _ => ⟨rfl, rfl, rfl, rfl⟩) fun s h => ?_) fun _ =>
    Meets.bind (readHeader_at (by decide) (fun _ _ => ⟨rfl, rfl, rfl, rfl⟩) fun s h => ?_) fun _ =>
    Meets.bind (readHeader_at (by decide) (fun _ _ => ⟨rfl, rfl, rfl, rfl⟩) fun s h => ?_) fun _ =>
    readHeader_at (by decide) (fun _ _ => ⟨rfl, rfl, rfl, rfl⟩) fun s h => ?_
  -- Each read fills its own register, whose field now ends at the position reached.
  all_goals simp_all [HeaderFields, selectorsWithin, fieldWithin]

/-! ### Reading the frame headers -/

theorem frameStart_succ : frameStart x (f + 1) = frameStart x f + frameHeaderWidth x := by
  rw [frameStart, frameStart, Nat.succ_mul, Nat.add_assoc]

theorem frameStart_mono {g : Nat} (h : g ≤ f) : frameStart x g ≤ frameStart x f :=
  Nat.add_le_add_left (Nat.mul_le_mul_right _ h) 62

theorem frameHeaderWidth_pos : 1 ≤ frameHeaderWidth x := Nat.succ_le_succ (Nat.zero_le _)

/-- FH when frame `f`'s header is read up to position `q` and those before it are finished. -/
def framesRead (m : Memory) (b : Nat) (x : Selectors) (f q g : Nat) : FrameHeader :=
  if g = f then partFrame m b q (frameStart x f) x else frameWithin m b (frameStart x f) (frameStart x g) x

theorem framesRead_start (g : Nat) :
    framesRead m b x f (frameStart x f) g = frameWithin m b (frameStart x f) (frameStart x g) x := by
  unfold framesRead
  split
  · next h =>
    have := frameHeaderWidth_pos (x := x)
    rw [h, frameWithin, if_neg (by omega)]
  · rfl

/-- The last write of ReadFrameHeader finishes frame `f` (R164). -/
theorem framesRead_finish (g : Nat) :
    (if g = f then frameExtents (framesRead m b x f (frameStart x (f + 1)) f)
      else framesRead m b x f (frameStart x (f + 1)) g) = framesRead m b x (f + 1) (frameStart x (f + 1)) g := by
  rw [framesRead_start]
  rcases Nat.lt_trichotomy g f with h | rfl | h
  · rw [if_neg (Nat.ne_of_lt h), framesRead, if_neg (Nat.ne_of_lt h)]
    exact (frameWithin_of_le (frameStart_succ.symm.trans_le (frameStart_mono h)) (frameStart_mono (Nat.le_succ f))).symm
  · rw [if_pos rfl, framesRead, if_pos rfl, frameWithin, if_pos frameStart_succ.ge]
  · rw [if_neg (Nat.ne_of_gt h), framesRead, if_neg (Nat.ne_of_gt h), frameWithin_of_ge (frameStart_mono (Nat.le_of_lt h)),
      frameWithin_of_ge (frameStart_mono h)]

/-- Where the direction ends inside a field, FH holds what the direction has. -/
theorem framesRead_cut (hq : frameStart x f ≤ q) (hN : q ≤ N) (hlast : N < frameStart x (f + 1))
    (hcut : partFrame m b q (frameStart x f) x = partFrame m b N (frameStart x f) x) (g : Nat) :
    framesRead m b x f q g = frameWithin m b N (frameStart x g) x := by
  rcases Nat.lt_trichotomy g f with h | rfl | h
  · rw [framesRead, if_neg (Nat.ne_of_lt h), frameWithin_of_le _ (Nat.le_trans hq hN)]
    exact frameStart_succ.symm.trans_le (frameStart_mono h)
  · rw [framesRead, if_pos rfl, hcut, frameWithin, if_neg (Nat.not_le.2 (frameStart_succ ▸ hlast))]
  · rw [framesRead, if_neg (Nat.ne_of_gt h), frameWithin_of_ge (frameStart_mono (Nat.le_of_lt h)),
      frameWithin_of_ge (Nat.le_of_lt (Nat.lt_of_lt_of_le hlast (frameStart_mono h)))]

/-- The direction header is read, and FH is as `framesRead` says. -/
def FramesReadTo (m : Memory) (b N n : Nat) (x : Selectors) (f q : Nat) (u : State) : Prop :=
  u.header.fpd.toNat = n ∧ HeaderFields m b N u ∧ u.sels = x ∧ ∀ g, u.frame g = framesRead m b x f q g

theorem readFrameField_at {k : Nat → FrameHeader → FrameHeader} (hq : frameStart x f ≤ q) (hlast : q + w ≤ frameStart x (f + 1))
    (hread : k (fieldAt m (b + q) w) (partFrame m b q (frameStart x f) x) = partFrame m b (q + w) (frameStart x f) x)
    (hcut : ∀ N, q ≤ N → N < q + w → partFrame m b q (frameStart x f) x = partFrame m b N (frameStart x f) x) :
    Meets (fun s => ReadTo m b N q s ∧ FramesReadTo m b N n x f q s) (readFrameField f w k)
      (fun _ s => ReadTo m b N (q + w) s ∧ FramesReadTo m b N n x f (q + w) s) (fun _ => DirectionWithin m b N) := by
  refine readInto_at (fun _ _ h => h) (fun _ _ => ⟨rfl, rfl⟩) (fun s _ h => ?_) fun s hN hlt h => ?_
  · obtain ⟨hn, hh, hx, hfr⟩ := h
    refine ⟨hn, hh, hx, fun g => ?_⟩
    rw [State.frame_setFrame, hfr, hfr, framesRead, if_pos rfl, hread]
    unfold framesRead
    split
    · rfl
    · rfl
  · obtain ⟨hn, hh, hx, hfr⟩ := h
    refine ⟨hh, fun g _ => ?_⟩
    rw [hx, hfr, framesRead_cut hq hN (Nat.lt_of_lt_of_le hlt hlast) (hcut N hN hlt)]

theorem readFrameHeader_at : Meets (fun s => ReadTo m b N (frameStart x f) s ∧ FramesReadTo m b N n x f (frameStart x f) s)
    (readFrameHeader f) (fun _ s => ReadTo m b N (frameStart x (f + 1)) s ∧
      FramesReadTo m b N n x (f + 1) (frameStart x (f + 1)) s) (fun _ => DirectionWithin m b N) := by
  have hend := frameStart_succ (x := x) (f := f)
  simp only [frameHeaderWidth, ← Nat.add_assoc] at hend
  refine withState_meets fun s hs => ?_
  rw [hs.2.2.2.1]
  refine Meets.bind (readFrameField_at (by omega) (by omega) ?_ fun N hN hlt => ?_) fun _ =>
    Meets.bind (readFrameField_at (by omega) (by omega) ?_ fun N hN hlt => ?_) fun _ =>
    Meets.bind (readFrameField_at (by omega) (by omega) ?_ fun N hN hlt => ?_) fun _ =>
    Meets.bind (readFrameField_at (by omega) (by omega) ?_ fun N hN hlt => ?_) fun _ =>
    Meets.bind (readFrameField_at (by omega) (by omega) ?_ fun N hN hlt => ?_) fun _ =>
    Meets.bind (readFrameField_at (by omega) (by omega) ?_ fun N hN hlt => ?_) fun _ =>
    Meets.bind (readFrameField_at (by omega) (by omega) ?_ fun N hN hlt => ?_) fun _ =>
    Meets.bind (readFrameField_at (by omega) (by omega) ?_ fun N hN hlt => ?_) fun _ =>
    Meets.write fun s hs => ?finish
  case finish =>
    rw [← hend] at hs
    obtain ⟨hr, hn, hh, hx, hfr⟩ := hs
    refine ⟨hr.of_same ⟨rfl, rfl⟩, hn, hh, hx, fun g => ?_⟩
    rw [State.frame_setFrame, hfr, hfr, framesRead_finish]
  -- Left of each read: it makes the header the one read up to its end, and where it is refused the header is all there is.
  all_goals simp (disch := omega) only [partFrame, optbAt, ← Nat.add_assoc, fieldWithin_of_le, fieldWithin_of_ge,
    fieldWithin_of_lt]

/-! ### DIRHDR -/

/-- The invariant of DIRHDR's frame loop; the optional data is skipped when no header is left to read. -/
def FramesReadBelow (m : Memory) (b N n f : Nat) (u : State) : Prop :=
  FramesReadTo m b N n (selectorsWithin m b N) f (frameStart (selectorsWithin m b N) f) u ∧
    frameStart (selectorsWithin m b N) f ≤ N ∧ (f < n → ReadTo m b N (frameStart (selectorsWithin m b N) f) u)

theorem FramesReadBelow.directionWithin (h : FramesReadBelow m b N n n u) : DirectionWithin m b N u := by
  obtain ⟨⟨hn, hh, hx, hfr⟩, hN, -⟩ := h
  refine ⟨hh, fun f hf => ?_⟩
  rw [hfr, framesRead_start, hx]
  exact (frameWithin_of_le (frameStart_succ.symm.trans_le (frameStart_mono (hn ▸ hf))) hN).symm

theorem HeaderReadTo.framesReadBelow (h : HeaderReadTo m b n 62 u) (hr : ReadTo m b N 62 u) :
    FramesReadBelow m b N n 0 u := by
  have hh : HeaderFields m b N u := h.2.1.cut hr.le fun e he => .inl ((by decide : ∀ e ∈ headerFieldEnds, e ≤ 62) e he)
  have h0 : frameStart (selectorsWithin m b N) 0 = 62 := by rw [frameStart, Nat.zero_mul]
  refine ⟨⟨h.1, hh, hh.2.2.2, fun g => ?_⟩, h0 ▸ hr.le, fun _ => h0 ▸ hr⟩
  rw [h.frame, framesRead_start, frameWithin_of_ge (frameStart_mono (Nat.zero_le g))]

theorem beginDirection_readTo {a l : Nat} (hb : directionBytes s a l) :
    ReadTo s.src (8 * a) (8 * l) 0 s.beginDirection ∧ HeaderReadTo s.src (8 * a) s.header.fpd.toNat 0 s.beginDirection := by
  obtain ⟨ha, hl, hin⟩ := hb
  have hlen := s.srcLen.isLt
  have hc : s.beginDirection.cursor cMain = ⟨BitVec.ofNat 64 (8 * a), 0, BitVec.ofNat 64 (8 * l), false⟩ := by
    rw [State.beginDirection, State.cursor_setCursor_self, ha, hl, Nat.add_sub_cancel_left, Cursor.overBytes,
      if_neg (Nat.not_lt.2 hin)]
  have hbit : ∀ k, k ≤ a + l → (BitVec.ofNat 64 (8 * k)).toNat = 8 * k := fun k hk => by
    rw [BitVec.toNat_ofNat, Nat.mod_eq_of_lt (by omega)]
  refine ⟨⟨Nat.zero_le _, rfl, ?_, ?_, ?_, ?_⟩, rfl, ⟨rfl, rfl, rfl, rfl⟩, rfl⟩
  · rw [hc, hbit a (Nat.le_add_right ..)]
  · rw [hc]; rfl
  · rw [hc, hbit l (Nat.le_add_left ..)]
  · rw [hc]

/-- However DIRHDR ends, its registers and FH hold the fields of the direction (R160, R161). -/
theorem dirhdrCmd_directionWithin {a l : Nat} (hd : directionSelected s) (hb : directionBytes s a l) :
    Meets (fun u => u = s) dirhdrCmd (fun _ => DirectionWithin s.src (8 * a) (8 * l))
      (fun _ => DirectionWithin s.src (8 * a) (8 * l)) := by
  refine dirhdrCmd_meets (I := FramesReadBelow s.src (8 * a) (8 * l) s.header.fpd.toNat)
    (A := fun u => ReadTo s.src (8 * a) (8 * l) 0 u ∧ HeaderReadTo s.src (8 * a) s.header.fpd.toNat 0 u)
    (fun _ hs h => absurd (hs ▸ h) hd.1) (fun _ hs _ h => absurd (hs ▸ hd.2) (Nat.not_lt.2 h))
    (fun u hs _ => ?_) ?_ (fun _ _ h => h.1.1) (fun f hf => ?_) (fun f => ?_)
    fun _ h => h.directionWithin
  · subst hs
    exact beginDirection_readTo hb
  · exact readDirectionHeader_at.weaken (fun _ h => h) (fun _ _ h => h.2.framesReadBelow h.1) fun _ _ h => h
  · exact readFrameHeader_at.weaken (fun _ h => ⟨h.2.2 hf, h.1⟩) (fun _ _ h => ⟨h.2, h.1.le, fun _ => h.1⟩) fun _ _ h => h
  · have hmoved : ∀ (s' : State) k, FramesReadBelow s.src (8 * a) (8 * l) s.header.fpd.toNat s.header.fpd.toNat s' →
        FramesReadBelow s.src (8 * a) (8 * l) s.header.fpd.toNat s.header.fpd.toNat (s'.setCursor cMain k) := fun _ _ h =>
      ⟨h.1, h.2.1, fun hlt => absurd hlt (Nat.lt_irrefl _)⟩
    exact skipOptional_meets (fun _ _ h => hmoved _ _ h) fun _ h => h.directionWithin

end Sys2Proof.Machine

/-! PROOF of O33 (R35, R160, R161, R164): what DIRHDR clears and leaves, by a property that its writes keep; what it reads, by
`dirhdrCmd_directionWithin`. -/
namespace Sys2Proof.Machine

open Sys2Proof.Claims

variable {s u : State}

/-- The fields DIRHDR leaves or clears once its prerequisites hold (R160, R161). -/
def DirhdrFrame (s u : State) : Prop :=
  u = { s with
    err := u.err
    stage := u.stage
    failed := u.failed
    cursors := u.cursors
    dirIdx := BitVec.ofNat 8 s.arg0.toNat
    outSize := u.outSize
    hasRaw := u.hasRaw
    compEq := u.compEq
    sels := u.sels
    extents := u.extents
    gw := 0
    gh := 0
    fh := u.fh
    sizes := ⟨0, 0, 0, 0⟩
    pctCount := 0
    pct := u.pct
    logCount := 0
    mapCount := 0 }

/-- The direction state is cleared but for what DIRHDR reads into it (R161). -/
structure DirectionCleared (s u : State) : Prop where
  frame : DirhdrFrame s u
  pct : u.pct = []
  unusedFrames : ∀ f, s.header.fpd.toNat ≤ f → u.frame f = FrameHeader.zero
  cursors : ∀ c : CursorIx, 1 ≤ c.val → u.cursor c = if c.val ≤ 5 then Cursor.empty else s.cursor c

theorem DirectionCleared.header (h : DirectionCleared s u) : u.header = s.header := by rw [h.frame]

theorem DirectionCleared.begin : DirectionCleared s s.beginDirection where
  frame := rfl
  pct := rfl
  unusedFrames _ _ := rfl
  cursors c hc := by
    rw [State.beginDirection, State.cursor_setCursor_other _ _ (by rintro rfl; simp at hc), State.cursor_startDirection]
    simp [hc]

theorem DirectionCleared.moved (n : Nat) (h : DirectionCleared s u) :
    DirectionCleared s (u.setCursor cMain ((u.cursor cMain).advance n)) where
  frame := congrArg (State.setCursor · cMain ((u.cursor cMain).advance n)) h.frame
  pct := h.pct
  unusedFrames := h.unusedFrames
  cursors c hc := by
    rw [State.cursor_setCursor_other _ _ (by rintro rfl; simp at hc)]
    exact h.cursors c hc

theorem DirectionCleared.setFrame {f : Nat} {v : FrameHeader} (hf : f < u.header.fpd.toNat) (h : DirectionCleared s u) :
    DirectionCleared s (u.setFrame f v) where
  frame := congrArg (State.setFrame · f v) h.frame
  pct := h.pct
  unusedFrames g hg := by
    rw [State.frame_setFrame, if_neg (by rintro rfl; rw [h.header] at hf; omega)]
    exact h.unusedFrames g hg
  cursors := h.cursors

/-- A write that leaves PCT, FH and the cursors. -/
theorem DirectionCleared.write {v : State} (h : DirectionCleared s u) (hframe : DirhdrFrame s v) (hpct : v.pct = u.pct)
    (hfh : v.fh = u.fh) (hc : v.cursors = u.cursors) : DirectionCleared s v where
  frame := hframe
  pct := hpct.trans h.pct
  unusedFrames f hf := by rw [State.frame, hfh]; exact h.unusedFrames f hf
  cursors c h1 := by rw [State.cursor, hc]; exact h.cursors c h1

theorem header_writes_keep_cleared : HeaderReadsKeep fun u => DirectionCleared s u ∧ u.extents = ⟨0, 0, 0, 0⟩ where
  moved _ n h := ⟨h.1.moved n, h.2⟩
  outSize _ v h := ⟨h.1.write (congrArg (fun u : State => ({ u with outSize := v } : State)) h.1.frame) rfl rfl rfl, h.2⟩
  hasRaw _ v h := ⟨h.1.write (congrArg (fun u : State => ({ u with hasRaw := v } : State)) h.1.frame) rfl rfl rfl, h.2⟩
  compEq _ v h := ⟨h.1.write (congrArg (fun u : State => ({ u with compEq := v } : State)) h.1.frame) rfl rfl rfl, h.2⟩
  sels _ v h := ⟨h.1.write (congrArg (fun u : State => ({ u with sels := v } : State)) h.1.frame) rfl rfl rfl, h.2⟩

theorem dirhdrCmd_clears (hd : directionSelected s) : Meets (fun u => u = s) dirhdrCmd (fun _ => DirectionCleared s)
    (fun _ u => DirectionCleared s u ∧ u.extents = ⟨0, 0, 0, 0⟩) := by
  refine dirhdrCmd_meets_simple (A := fun u => DirectionCleared s u ∧ u.extents = ⟨0, 0, 0, 0⟩)
    (fun _ hs h => absurd (hs ▸ h) hd.1) (fun _ hs _ h => absurd (hs ▸ hd.2) (Nat.not_lt.2 h)) (fun u hs _ => ?_)
    header_writes_keep_cleared (fun _ _ _ hf h => ⟨h.1.setFrame hf, h.2⟩) (fun _ h => h) fun u h => ?_
  · subst hs
    exact ⟨.begin, rfl⟩
  · exact h.1.write (congrArg (fun v : State => ({ v with extents := u.unionExtents, stage := .hdr } : State)) h.1.frame)
      rfl rfl rfl

/-- What DIRHDR ends with: the direction cleared, and its extents 0 on an error. -/
theorem exec_dirhdr_clears {t : State} (hd : directionSelected s) (ht : exec .dirhdr s = .next t) :
    DirectionCleared s t ∧ (t.err ≠ none → t.extents = ⟨0, 0, 0, 0⟩) := by
  rcases Meets.complete (dirhdrCmd_clears hd) rfl ht with ⟨u, hu, rfl⟩ | ⟨e, u, ⟨hu, hext⟩, rfl⟩
  · exact ⟨hu.write (congrArg succeed hu.frame) rfl rfl rfl, fun h => absurd rfl h⟩
  · exact ⟨hu.write (congrArg (takeError .stage e) hu.frame) rfl rfl rfl, fun _ => hext⟩

/-- What DIRHDR ends with: the fields of the direction's bytes. -/
theorem exec_dirhdr_directionWithin {t : State} {a l : Nat} (hd : directionSelected s) (hb : directionBytes s a l)
    (ht : exec .dirhdr s = .next t) : DirectionWithin s.src (8 * a) (8 * l) t := by
  rcases Meets.complete (dirhdrCmd_directionWithin hd hb) rfl ht with ⟨u, hu, rfl⟩ | ⟨e, u, hu, rfl⟩
  · exact hu
  · exact hu

/-- Settles O33: what DIRHDR clears, then what it reads. -/
theorem dirhdrClearsDirectionState : Obligations.DirhdrClearsDirectionState := by
  intro s hd
  obtain ⟨t, ht⟩ := exec_next .dirhdr s
  obtain ⟨hcl, hext⟩ := exec_dirhdr_clears hd ht
  have hfr := hcl.frame
  refine ⟨t, ht, by rw [hfr], by rw [hfr], by rw [hfr], by rw [hfr], fun k => ?_, by rw [hfr], by rw [hfr], hext, ?_,
    hcl.unusedFrames, fun c h1 h5 => (hcl.cursors c h1).trans (if_pos h5), hcl.cursors 6 (by decide),
    hcl.cursors 7 (by decide), hfr⟩
  · rw [State.code, hcl.pct]; rfl
  · rintro a l b hb rfl
    obtain ⟨⟨hsize, hraw, heq, hsels⟩, hframes⟩ := exec_dirhdr_directionWithin hd hb ht
    refine ⟨hsize, hraw, heq, hsels, fun f hf => ?_⟩
    rw [hframes f (by rwa [hcl.header])]
    exact fieldsWithin_frameWithin

end Sys2Proof.Machine

/-! PROOF of O14 (R11, R62, R64, R65): the bits of a field and of a little-endian number, each by its own recursion. -/
namespace Sys2Proof.Machine

/-- The top piece of a number in pieces of bits: bits from `n` on are the top piece's. -/
theorem testBit_add_mul_two_pow {x n : Nat} (hx : x < 2 ^ n) (y j : Nat) :
    (x + y * 2 ^ n).testBit j = if j < n then x.testBit j else y.testBit (j - n) := by
  rw [Nat.add_comm, Nat.mul_comm, Nat.testBit_two_pow_mul_add y hx]

theorem testBit_fieldAt (m : Memory) (b w j : Nat) : (fieldAt m b w).testBit j = (decide (j < w) && srcBit m (b + j)) := by
  induction w with
  | zero => simp [fieldAt]
  | succ w ih =>
    rw [fieldAt, testBit_add_mul_two_pow (fieldAt_lt m b w), ih]
    rcases Nat.lt_trichotomy j w with h | rfl | h
    · simp [h, Nat.lt_succ_of_lt h]
    · rw [if_neg (Nat.lt_irrefl j), Nat.testBit_bool_toNat]; simp
    · rw [if_neg (Nat.not_lt.2 h.le), Nat.testBit_bool_toNat]
      simp [Nat.sub_ne_zero_of_lt h, Nat.not_lt.2 h]

theorem testBit_memRead (m : Memory) (a n j : Nat) :
    (memRead m a n).testBit j = (decide (j < 8 * n) && (Memory.byte m (a + j / 8)).getLsbD (j % 8)) := by
  induction n with
  | zero => simp [memRead]
  | succ n ih =>
    rw [memRead, testBit_add_mul_two_pow (memRead_lt m a n), ih, BitVec.testBit_toNat]
    by_cases h : j < 8 * n
    · simp [h, show j < 8 * (n + 1) by omega]
    · by_cases h' : j < 8 * (n + 1)
      · rw [if_neg h, show j / 8 = n by omega, show j - 8 * n = j % 8 by omega]
        simp [h']
      · rw [if_neg h, BitVec.getLsbD_of_ge _ _ (by omega)]
        simp [h']

/-- A field of whole bytes at a byte address is the little-endian number there (R65). -/
theorem fieldAt_eq_memRead (m : Memory) (a n : Nat) : fieldAt m (8 * a) (8 * n) = memRead m a n := by
  refine Nat.eq_of_testBit_eq fun j => ?_
  rw [testBit_fieldAt, testBit_memRead, srcBit, show (8 * a + j) / 8 = a + j / 8 by omega,
    show (8 * a + j) % 8 = j % 8 by omega]

/-- Settles O14: both readings of a field have the same bits. -/
theorem fieldBitsInReadOrder : Obligations.FieldBitsInReadOrder :=
  ⟨testBit_fieldAt, fun m a => fieldAt_eq_memRead m a 4⟩

end Sys2Proof.Machine

/-! PROOF of O15, O16, O17, O18 and O19 (R70 to R74, R94, R105, R111 to R117, R119, R120): the outcome of each bit-reader command,
from its equation in the laws and from whether the cursor refuses the access. -/
namespace Sys2Proof.Machine

open Sys2Proof.Claims

/-! ### The reads -/

theorem exec_of_unsignedReads {c : CursorIx} {p : Instr × Nat} (hp : p ∈ unsignedReads c) :
    exec p.1 = complete .bitReader (readUnsigned c p.2) := by
  fin_cases hp <;> rfl

theorem exec_of_signedReads {c : CursorIx} {p : Instr × Nat} (hp : p ∈ signedReads c) :
    exec p.1 = complete .bitReader (readSigned c p.2) := by
  fin_cases hp <;> rfl

/-- The integer of a `w`-bit value is its two's complement reading (R9, R105). -/
theorem signedValue_eq_toInt {v w : Nat} (h : v < 2 ^ w) : signedValue v w = (BitVec.ofNat w v).toInt := by
  cases w with
  | zero => simp [signedValue, BitVec.toInt_zero_length]
  | succ w =>
    have hmsb : (BitVec.ofNat (w + 1) v).msb = v.testBit w := by
      rw [BitVec.msb_eq_getLsbD_last, BitVec.getLsbD_ofNat]; simp
    rw [BitVec.toInt_eq_msb_cond, hmsb, BitVec.toNat_ofNat, Nat.mod_eq_of_lt h]
    simp [signedValue]

theorem signedValue_zero (w : Nat) : signedValue 0 w = 0 := by simp [signedValue]

/-- Settles O15: an unsigned read that the cursor does not refuse. -/
theorem unsignedReadsComplete : Obligations.UnsignedReadsComplete := by
  rintro s c k rfl p hp herr hlen
  have hb : (s.cursor c).blocks p.2 = false := Cursor.blocks_eq_false.2 ⟨herr, hlen⟩
  rw [exec_of_unsignedReads hp, complete_readUnsigned, Cursor.value_ok hb, Cursor.advance_ok hb, hb]
  rfl

/-- Settles O16: a signed read that the cursor does not refuse; sign extension goes through the two's complement integer. -/
theorem signedReadsComplete : Obligations.SignedReadsComplete := by
  rintro s c k rfl p hp herr hlen
  have hb : (s.cursor c).blocks p.2 = false := Cursor.blocks_eq_false.2 ⟨herr, hlen⟩
  rw [exec_of_signedReads hp, complete_readSigned, Cursor.value_ok hb, Cursor.advance_ok hb, hb,
    signedValue_eq_toInt (fieldAt_lt ..)]
  rfl

/-! ### ALIGN, SKIP and refused accesses -/

/-- Where ALIGN goes: the next multiple of 8 (R72). -/
theorem Cursor.pos_add_toAlign (k : Cursor) : k.pos.toNat + k.toAlign = 8 * ((k.pos.toNat + 7) / 8) := by
  unfold Cursor.toAlign; omega

/-- Settles O19: the two moves of an access that the cursor does not refuse. -/
theorem alignAndSkipMove : Obligations.AlignAndSkipMove := by
  rintro s c k rfl herr
  constructor
  · intro hlen
    rw [← Cursor.pos_add_toAlign] at hlen ⊢
    have hb : (s.cursor c).blocks (s.cursor c).toAlign = false := Cursor.blocks_eq_false.2 ⟨herr, hlen⟩
    rw [exec_align, Cursor.advance_ok hb, hb]
    rfl
  · intro hlen
    have hb : (s.cursor c).blocks s.arg0.toNat = false := Cursor.blocks_eq_false.2 ⟨herr, hlen⟩
    rw [exec_skip, Cursor.advance_ok hb, hb]
    rfl

/-- A read that the cursor refuses gives 0 and leaves the cursor in error, not moved (R70). -/
theorem exec_read_blocked {s : State} {c : CursorIx} {p : Instr × Nat} (hp : p ∈ unsignedReads c ++ signedReads c)
    (hb : (s.cursor c).blocks p.2 = true) :
    exec p.1 s = .next { s with
      res := 0
      err := some .truncatedStream
      cursors := s.cursors.set c (inError (s.cursor c)) } := by
  rcases List.mem_append.1 hp with hu | hs
  · rw [exec_of_unsignedReads hu, complete_readUnsigned, Cursor.value_blocked hb, Cursor.advance_blocked hb, hb]
    rfl
  · rw [exec_of_signedReads hs, complete_readSigned, Cursor.value_blocked hb, Cursor.advance_blocked hb, hb,
      signedValue_zero]
    rfl

/-- Settles O17: every access that the cursor refuses. -/
theorem refusedAccessesFail : Obligations.RefusedAccessesFail := by
  rintro s c k rfl
  refine ⟨fun p hp h => exec_read_blocked hp (Cursor.blocks_eq_true.2 h), fun h => ?_, fun h => ?_⟩
  · rw [← Cursor.pos_add_toAlign] at h
    have hb : (s.cursor c).blocks (s.cursor c).toAlign = true := Cursor.blocks_eq_true.2 h
    rw [exec_align, Cursor.advance_blocked hb, hb]
    rfl
  · have hb : (s.cursor c).blocks s.arg0.toNat = true := Cursor.blocks_eq_true.2 h
    rw [exec_skip, Cursor.advance_blocked hb, hb]
    rfl

/-! ### CUROPEN and SLICE -/

/-- Settles O18: the three ways CUROPEN ends, then SLICE with the parent in error or not. -/
theorem curopenAndSliceMakeCursors : Obligations.CuropenAndSliceMakeCursors := by
  refine ⟨fun s c => ⟨fun hv hfit => ?_, fun hv hpast => ?_, fun hv => ?_⟩, ?_⟩
  · rw [exec_curopen, if_pos hv, Cursor.overBytes, if_neg (Nat.not_lt.2 hfit), if_neg (Nat.not_lt.2 hfit)]
  · rw [exec_curopen, if_pos hv, Cursor.overBytes, if_pos hpast, if_pos hpast]
    rfl
  · rw [exec_curopen, hv]
    rfl
  · rintro s d c k rfl
    constructor <;> intro herr <;> rw [exec_slice, Cursor.rest, herr] <;> rfl

end Sys2Proof.Machine

/-! PROOF of O38 (R73, R201, R203, R205): SETUP carves its sub-streams one after the other until the first that does not fit.
What each carving leaves is one step, `carve_subStream`; everything SETUP can do is assembled from it in `setupCmd_outcome`. -/
namespace Sys2Proof.Machine

open Sys2Proof.Claims

/-! ### Carving as a write -/

/-- Cursor 0 moves past `n` bits and cursor `d` becomes the slice of them (R73). -/
def State.carve (u : State) (d : CursorIx) (n : Nat) : State :=
  (u.setCursor cMain ((u.cursor cMain).advance n)).setCursor d ((u.cursor cMain).part n)

section
variable {u : State} {d : CursorIx} {n : Nat}

theorem State.carve_main (hd : d ≠ cMain) : (u.carve d n).cursor cMain = (u.cursor cMain).advance n := by
  simp [State.carve, State.cursor_setCursor_other _ _ hd.symm]

theorem State.carve_self : (u.carve d n).cursor d = (u.cursor cMain).part n := State.cursor_setCursor_self ..

theorem State.carve_other {c : CursorIx} (h0 : c ≠ cMain) (hd : c ≠ d) : (u.carve d n).cursor c = u.cursor c := by
  simp [State.carve, State.cursor_setCursor_other _ _ h0, State.cursor_setCursor_other _ _ hd]

theorem run_carve (hd : d ≠ cMain) (n : State → Nat) : (carve d n).run u =
    if (u.cursor cMain).blocks (n u) then .error .truncatedStream (u.carve d (n u)) else .ok () (u.carve d (n u)) := by
  show (failIfErr cMain).run (u.carve d (n u)) = _
  rw [run_failIfErr, State.carve_main hd, Cursor.advance_err]

end

/-! ### The cursor of the direction after some sub-streams -/

section
variable {k : Cursor} {l n : Nat}

theorem movedTo_pos : movedTo k k.pos.toNat = k := by simp [movedTo]

theorem pos_movedTo_add : (movedTo k (k.pos.toNat + l)).pos = k.pos + BitVec.ofNat 64 l := by
  simp [movedTo, BitVec.ofNat_add]

/-- A position inside the range does not wrap. -/
theorem pos_toNat_movedTo (h : l = 0 ∨ k.pos.toNat + l ≤ k.len.toNat) :
    (movedTo k (k.pos.toNat + l)).pos.toNat = k.pos.toNat + l := by
  have := k.pos.isLt
  have := k.len.isLt
  exact Nat.mod_eq_of_lt (by omega)

theorem rest_movedTo : (movedTo k (k.pos.toNat + l)).rest =
    ⟨k.base + k.pos + BitVec.ofNat 64 l, 0, k.len - (k.pos + BitVec.ofNat 64 l), k.err⟩ := by
  rw [Cursor.rest, pos_movedTo_add, BitVec.add_assoc]
  rfl

theorem part_movedTo (hb : (movedTo k (k.pos.toNat + l)).blocks n = false) : (movedTo k (k.pos.toNat + l)).part n =
    ⟨k.base + k.pos + BitVec.ofNat 64 l, 0, BitVec.ofNat 64 n, false⟩ := by
  rw [Cursor.part, hb, pos_movedTo_add, BitVec.add_assoc]
  rfl

end

/-! ### The sub-streams in order -/

theorem lensBefore_succ (s : State) (i : Nat) : lensBefore s (i + 1) = lensBefore s i + (subLens s).getD i 0 := by
  rw [lensBefore, lensBefore, List.take_add_one, List.sum_append, List.getD_eq_getElem?_getD]
  cases (subLens s)[i]? <;> simp

theorem lensBefore_mono (s : State) : Monotone (lensBefore s) :=
  monotone_nat_of_le_succ fun i => lensBefore_succ s i ▸ Nat.le_add_right ..

theorem lensBefore_four (s : State) : lensBefore s 4 = eqLen s + maskLen s + rawuLen s + rawcLen s := by
  simp [lensBefore, subLens, Nat.add_assoc]

/-- The first `i` sub-streams of cursor 0 = `k` of `s` fit: each was carved with no error (R201). -/
abbrev SubStreamsFit (s : State) (k : Cursor) (i : Nat) : Prop :=
  i = 0 ∨ (k.err = false ∧ k.pos.toNat + lensBefore s i ≤ k.len.toNat)

theorem subStreamsFit_four {s : State} {k : Cursor} : SubStreamsFit s k 4 ↔
    k.err = false ∧ k.pos.toNat + eqLen s + maskLen s + rawuLen s + rawcLen s ≤ k.len.toNat := by
  simp [SubStreamsFit, lensBefore_four, Nat.add_assoc]

/-- SETUP on `s` with cursor 0 = `k` has carved the first `i` sub-streams and written nothing else (R201). -/
structure CarvedTo (s : State) (k : Cursor) (i : Nat) (u : State) : Prop where
  fit : SubStreamsFit s k i
  main : u.cursor cMain = movedTo k (k.pos.toNat + lensBefore s i)
  made : ∀ c : CursorIx, 1 ≤ c.val → c.val ≤ i → u.cursor c = carved s k (c.val - 1)
  untouched : ∀ c : CursorIx, i < c.val → u.cursor c = s.cursor c
  frame : u = { s with cursors := u.cursors }

/-- Sub-stream `i` is the first that does not fit, and SETUP on `s` has ended at it: the cursors it leaves (R201, R73). -/
structure CarveFailed (s : State) (k : Cursor) (i : Nat) (u : State) : Prop where
  misfit : firstMisfit s k i
  main : u.cursor cMain = inError (movedTo k (k.pos.toNat + lensBefore s i))
  made : ∀ c : CursorIx, 1 ≤ c.val → c.val ≤ i → u.cursor c = carved s k (c.val - 1)
  failed : ∀ c : CursorIx, c.val = i + 1 → u.cursor c = ⟨0, 0, 0, true⟩
  untouched : ∀ c : CursorIx, i + 1 < c.val → u.cursor c = s.cursor c
  frame : u = { s with cursors := u.cursors }

section
variable {s u : State} {k : Cursor} {i : Nat}

theorem carvedTo_zero (h : s.cursor cMain = k) : CarvedTo s k 0 s where
  fit := .inl rfl
  main := h.trans movedTo_pos.symm
  made _ h1 h0 := absurd h1 (by omega)
  untouched _ _ := rfl
  frame := rfl

/-- Cursor 0 stands behind the sub-streams made: its position has not wrapped. -/
theorem CarvedTo.pos (h : CarvedTo s k i u) : (u.cursor cMain).pos.toNat = k.pos.toNat + lensBefore s i := by
  rw [h.main]
  exact pos_toNat_movedTo (h.fit.imp (fun h0 => by rw [h0]; rfl) fun hle => hle.2)

/-- The next sub-stream is refused exactly when it does not fit (R70, R201). -/
theorem CarvedTo.blocks_next (h : CarvedTo s k i u) : (u.cursor cMain).blocks ((subLens s).getD i 0) = true ↔
    k.err = true ∨ k.len.toNat < k.pos.toNat + lensBefore s (i + 1) := by
  rw [Cursor.blocks_eq_true, h.pos, h.main, lensBefore_succ, Nat.add_assoc]
  rfl

/-- Carving writes the cursors only. -/
theorem CarvedTo.frame_carve (h : CarvedTo s k i u) (d : CursorIx) (n : Nat) :
    u.carve d n = { s with cursors := (u.carve d n).cursors } :=
  congrArg (fun v : State => { v with cursors := (u.carve d n).cursors }) h.frame

variable {d : CursorIx} (hd : d.val = i + 1)
include hd

theorem ne_main_of_subStream : d ≠ cMain := Fin.ne_of_val_ne (by rw [hd]; exact Nat.succ_ne_zero i)

/-- Carving sub-stream `i` leaves the cursors of the other sub-streams. -/
theorem carve_otherStream (n : Nat) {c : CursorIx} (h1 : 1 ≤ c.val) (hc : c.val ≠ i + 1) :
    (u.carve d n).cursor c = u.cursor c :=
  State.carve_other (Fin.ne_of_val_ne (Nat.ne_of_gt h1)) (Fin.ne_of_val_ne (hd ▸ hc))

/-- The next sub-stream fits. -/
theorem CarvedTo.next (h : CarvedTo s k i u) (hb : (u.cursor cMain).blocks ((subLens s).getD i 0) = false) :
    CarvedTo s k (i + 1) (u.carve d ((subLens s).getD i 0)) where
  fit := by
    have hfit := mt h.blocks_next.2 (Bool.eq_false_iff.1 hb)
    exact .inr (by simpa using hfit)
  main := by
    rw [State.carve_main (ne_main_of_subStream hd), Cursor.advance_ok hb, h.pos, h.main, lensBefore_succ, Nat.add_assoc]
    rfl
  made c h1 hc := by
    by_cases hci : c.val = i + 1
    · obtain rfl : c = d := Fin.ext (hci.trans hd.symm)
      rw [State.carve_self, h.main, part_movedTo (h.main ▸ hb), hci, Nat.add_sub_cancel]
      rfl
    · exact (carve_otherStream hd _ h1 hci).trans (h.made c h1 (by omega))
  untouched c hc := (carve_otherStream hd _ (by omega) (by omega)).trans (h.untouched c (by omega))
  frame := h.frame_carve d _

/-- The next sub-stream does not fit. -/
theorem CarvedTo.fail (h : CarvedTo s k i u) (hb : (u.cursor cMain).blocks ((subLens s).getD i 0) = true) :
    CarveFailed s k i (u.carve d ((subLens s).getD i 0)) where
  misfit := ⟨h.fit, h.blocks_next.1 hb⟩
  main := by
    rw [State.carve_main (ne_main_of_subStream hd), Cursor.advance_blocked hb, h.main]
    rfl
  made c h1 hc := (carve_otherStream hd _ h1 (by omega)).trans (h.made c h1 hc)
  failed c hc := by
    obtain rfl : c = d := Fin.ext (hc.trans hd.symm)
    rw [State.carve_self, Cursor.part, if_pos hb]
    rfl
  untouched c hc := (carve_otherStream hd _ (by omega) (by omega)).trans (h.untouched c (by omega))
  frame := h.frame_carve d _

end

/-! ### Everything SETUP can do -/

/-- Cursor 5 becomes what is left of cursor 0 (R201). -/
def State.carveRest (u : State) : State := u.setCursor cInc (u.cursor cMain).rest

/-- What SETUP does after carving the four sub-streams: the rest, the grid and the results (R201, R203, R206). -/
def setupGrid : Cmd Unit := do
  curSlice cInc cMain
  write fun s => { s with gw := cellCount s.extents.xmin s.extents.xmax }
  write fun s => { s with gh := cellCount s.extents.ymin s.extents.ymax }
  raiseWhen (fun s => decide (s.params.maxCells < s.cells)) .capacityExceeded
  write State.emptyResults
  write fun s => { s with stage := .setup }

theorem run_setupGrid (u : State) : setupGrid.run u =
    if u.params.maxCells < u.sizeGrid.cells then .error .capacityExceeded u.carveRest.sizeGrid
    else .ok () { u.carveRest.sizeGrid.emptyResults with stage := .setup } := by
  show (raiseWhen _ _ >>= _).run u.carveRest.sizeGrid = _
  rw [run_raiseWhen_bind]
  simp only [decide_eq_true_eq]
  rfl

/-- How SETUP ends on `s` with cursor 0 = `k` when it succeeds (R201). -/
def SetupEnds (s : State) (k : Cursor) (t : State) : Prop :=
  s.sizeGrid.cells ≤ s.params.maxCells ∧
    ∃ u, CarvedTo s k 4 u ∧ t = { u.carveRest.sizeGrid.emptyResults with stage := .setup }

/-- How SETUP raises an error on `s` with cursor 0 = `k`: at a sub-stream, or at the grid (R201, R205). -/
def SetupRaises (s : State) (k : Cursor) (e : ErrorKind) (t : State) : Prop :=
  (e = .truncatedStream ∧ ∃ i < 4, CarveFailed s k i t) ∨
  (e = .capacityExceeded ∧ s.params.maxCells < s.sizeGrid.cells ∧ ∃ u, CarvedTo s k 4 u ∧ t = u.carveRest.sizeGrid)

section
variable {s t : State} {k : Cursor}

/-- One sub-stream: carved when it fits, and else the end of SETUP. -/
theorem carve_subStream {i : Nat} {d : CursorIx} {n : State → Nat} (hi : i < 4) (hd : d.val = i + 1)
    (hn : ∀ cs, n { s with cursors := cs } = (subLens s).getD i 0) :
    Meets (CarvedTo s k i) (carve d n) (fun _ => CarvedTo s k (i + 1)) (SetupRaises s k) := by
  intro u hu
  have hlen : n u = (subLens s).getD i 0 := (congrArg n hu.frame).trans (hn _)
  rw [run_carve (ne_main_of_subStream hd), hlen]
  cases hb : (u.cursor cMain).blocks ((subLens s).getD i 0)
  · exact hu.next hd hb
  · exact .inl ⟨rfl, i, hi, hu.fail hd hb⟩

theorem setupGrid_outcome : Meets (CarvedTo s k 4) setupGrid (fun _ => SetupEnds s k) (SetupRaises s k) := by
  intro u hu
  have hparams : u.params = s.params := by rw [hu.frame]
  have hcells : u.sizeGrid.cells = s.sizeGrid.cells := by rw [hu.frame]; rfl
  rw [run_setupGrid, hparams, hcells]
  by_cases hcap : s.params.maxCells < s.sizeGrid.cells
  · rw [if_pos hcap]
    exact .inr ⟨rfl, hcap, u, hu, rfl⟩
  · rw [if_neg hcap]
    exact ⟨Nat.le_of_not_lt hcap, u, hu, rfl⟩

theorem setupCmd_outcome (hk : s.cursor cMain = k) (hr : s.readyAt .pct) :
    Meets (fun u => u = s) setupCmd (fun _ => SetupEnds s k) (SetupRaises s k) := by
  refine Meets.bind (Q := fun _ => CarvedTo s k 0) (requireStage_meets (fun u hu h => absurd (hu ▸ hr) h)
    fun _ hu _ => hu.symm ▸ carvedTo_zero hk) fun _ => ?_
  refine Meets.bind (carve_subStream (by decide) rfl fun _ => rfl) fun _ => ?_
  refine Meets.bind (carve_subStream (by decide) rfl fun _ => rfl) fun _ => ?_
  refine Meets.bind (carve_subStream (by decide) rfl fun _ => rfl) fun _ => ?_
  refine Meets.bind (carve_subStream (by decide) rfl fun _ => rfl) fun _ => ?_
  exact setupGrid_outcome

/-! ### What SETUP leaves -/

theorem State.carveRest_other {c : CursorIx} (h : c ≠ cInc) : s.carveRest.cursor c = s.cursor c :=
  State.cursor_setCursor_other _ _ h

/-- Cursor 5 is the range behind the four sub-streams (R201, R73). -/
theorem CarvedTo.carveRest_inc {u : State} (h : CarvedTo s k 4 u) : u.carveRest.cursor cInc =
    ⟨k.base + k.pos + BitVec.ofNat 64 (lensBefore s 4), 0, k.len - (k.pos + BitVec.ofNat 64 (lensBefore s 4)), k.err⟩ := by
  rw [State.carveRest, State.cursor_setCursor_self, h.main, rest_movedTo]

/-- After the carving SETUP has written cursors, GW and GH only (R201, R203). -/
theorem CarvedTo.sizeGrid_carveRest {u : State} (h : CarvedTo s k 4 u) : u.carveRest.sizeGrid = { s with
    cursors := u.carveRest.cursors
    gw := cellCount s.extents.xmin s.extents.xmax
    gh := cellCount s.extents.ymin s.extents.ymax } :=
  congrArg (fun v => { v.sizeGrid with cursors := u.carveRest.cursors }) h.frame

/-! ### The two failures -/

/-- When all four sub-streams fit, none is the first that does not. -/
theorem not_firstMisfit_of_fit {i : Nat} (h : SubStreamsFit s k 4) (hi : i < 4) : ¬ firstMisfit s k i := by
  rintro ⟨-, hmis⟩
  have := lensBefore_mono s (show i + 1 ≤ 4 from hi)
  rcases h with h | ⟨herr, hle⟩
  · exact absurd h (by decide)
  · rcases hmis with hmis | hmis
    · simp [herr] at hmis
    · omega

/-- The grid of extents that fit has the cells of their rectangle (R203). -/
theorem cells_sizeGrid (h : extentsFit s.extents) : s.sizeGrid.cells =
    cellsAcross s.extents.xmin s.extents.xmax * cellsAcross s.extents.ymin s.extents.ymax := by
  obtain ⟨hx, hy, hcols, hrows⟩ := h
  rw [State.cells, State.sizeGrid, cellCount_toNat hx hcols, cellCount_toNat hy hrows]

theorem exec_setup_misfit (hk : s.cursor cMain = k) (hr : s.readyAt .pct) (h : ¬ SubStreamsFit s k 4) :
    ∃ i u, i < 4 ∧ CarveFailed s k i u ∧ exec .setup s = .next (takeError .stage .truncatedStream u) := by
  obtain ⟨t, ht⟩ := exec_next .setup s
  rcases Meets.complete (setupCmd_outcome hk hr) rfl ht with
    ⟨_, ⟨-, u, hu, -⟩, -⟩ | ⟨e, u, ⟨rfl, i, hi, hf⟩ | ⟨-, -, v, hv, -⟩, rfl⟩
  · exact absurd hu.fit h
  · exact ⟨i, u, hi, hf, ht⟩
  · exact absurd hv.fit h

theorem exec_setup_capacity (hk : s.cursor cMain = k) (hr : s.readyAt .pct) (h : SubStreamsFit s k 4)
    (hcap : s.params.maxCells < s.sizeGrid.cells) :
    ∃ u, CarvedTo s k 4 u ∧ exec .setup s = .next (takeError .stage .capacityExceeded u.carveRest.sizeGrid) := by
  obtain ⟨t, ht⟩ := exec_next .setup s
  rcases Meets.complete (setupCmd_outcome hk hr) rfl ht with
    ⟨_, ⟨hfits, -⟩, -⟩ | ⟨e, u, ⟨rfl, i, hi, hf⟩ | ⟨rfl, -, v, hv, rfl⟩, rfl⟩
  · exact absurd hcap (Nat.not_lt.2 hfits)
  · exact absurd hf.misfit (not_firstMisfit_of_fit h hi)
  · exact ⟨v, hv, ht⟩

end

/-- Settles O38: the two errors of `setupCmd_outcome`, with the cursors that `CarveFailed` and `CarvedTo` give. -/
theorem setupFailures : Obligations.SetupFailures := by
  intro s k hk hstage hfailed
  constructor
  · intro hmis
    have hnofit : ¬ SubStreamsFit s k 4 := by
      rw [subStreamsFit_four]
      rintro ⟨herr, hle⟩
      exact hmis.elim (by simp [herr]) (Nat.not_lt.2 hle)
    obtain ⟨i, u, hi, hu, ht⟩ := exec_setup_misfit hk ⟨hstage, hfailed⟩ hnofit
    refine ⟨i, _, hi, hu.misfit, ht, rfl, hu.main, hu.made, hu.failed, hu.untouched, ?_⟩
    exact (congrArg (takeError .stage .truncatedStream) hu.frame).trans (by simp [takeError, isDataError])
  · intro herr hle hext hcap
    have hfit : SubStreamsFit s k 4 := subStreamsFit_four.2 ⟨herr, hle⟩
    obtain ⟨u, hu, ht⟩ := exec_setup_capacity hk ⟨hstage, hfailed⟩ hfit (cells_sizeGrid hext ▸ hcap)
    obtain ⟨hx, hy, hcols, hrows⟩ := hext
    refine ⟨_, ht, rfl, ?_, ?_, (State.carveRest_other (by decide)).trans hu.main, fun c h1 h4 => ?_,
      hu.carveRest_inc.trans (by rw [herr]), (State.carveRest_other (by decide)).trans (hu.untouched 6 (by decide)),
      (State.carveRest_other (by decide)).trans (hu.untouched 7 (by decide)), ?_⟩
    · rw [takeError_gw, hu.sizeGrid_carveRest]
      exact cellCount_toNat hx hcols
    · rw [takeError_gh, hu.sizeGrid_carveRest]
      exact cellCount_toNat hy hrows
    · exact (State.carveRest_other (Fin.ne_of_val_ne (Nat.ne_of_lt (Nat.lt_succ_of_le h4)))).trans (hu.made c h1 h4)
    · rw [hu.sizeGrid_carveRest]
      simp [takeError, isDataError]

end Sys2Proof.Machine

/-! PROOFS of O1, O2, O3, O4 and O6 (R80 to R84): the legal words are the words `cmdWord` puts together from an opcode of R82's
table and operands that are 0 where the command has no use for them. Decoder, encoder and R83's checks are each compared with
that form. -/
namespace Sys2Proof

/-! ### A command word and its fields (R81) -/

section
variable (opc : BitVec 8) (sel : Selector) (c d : CursorIx)

@[simp] theorem fieldOpc_cmdWord : fieldOpc (cmdWord opc sel c d) = opc := by
  rw [fieldOpc, cmdWord, BitVec.extractLsb'_append_eq_of_add_le (by decide), BitVec.extractLsb'_eq_self]

@[simp] theorem fieldSel_cmdWord : fieldSel (cmdWord opc sel c d) = sel := by
  simp (disch := decide) only [cmdWord, BitVec.extractLsb'_append_eq_of_le, BitVec.extractLsb'_append_eq_of_add_le]
  exact BitVec.extractLsb'_eq_self

@[simp] theorem fieldC_cmdWord : fieldC (cmdWord opc sel c d) = BitVec.ofNat 3 c.val := by
  simp (disch := decide) only [cmdWord, BitVec.extractLsb'_append_eq_of_le, BitVec.extractLsb'_append_eq_of_add_le]
  exact BitVec.extractLsb'_eq_self

@[simp] theorem fieldBit15_cmdWord : fieldBit15 (cmdWord opc sel c d) = 0 := by
  simp (disch := decide) only [cmdWord, BitVec.extractLsb'_append_eq_of_le, BitVec.extractLsb'_append_eq_of_add_le]
  rfl

@[simp] theorem fieldD_cmdWord : fieldD (cmdWord opc sel c d) = BitVec.ofNat 3 d.val := by
  simp (disch := decide) only [cmdWord, BitVec.extractLsb'_append_eq_of_le, BitVec.extractLsb'_append_eq_of_add_le]
  exact BitVec.extractLsb'_eq_self

@[simp] theorem fieldHigh_cmdWord : fieldHigh (cmdWord opc sel c d) = 0 := by
  simp (disch := decide) only [cmdWord, BitVec.extractLsb'_append_eq_of_le]
  rfl

end

/-- A word whose reserved bits are 0 is put together from its other fields. -/
theorem eq_cmdWord {w : Word} (h15 : fieldBit15 w = 0) (hhigh : fieldHigh w = 0) :
    w = cmdWord (fieldOpc w) (fieldSel w) (fieldC w).toFin (fieldD w).toFin := by
  have h : fieldHigh w ++ fieldD w ++ fieldBit15 w ++ fieldC w ++ fieldSel w ++ fieldOpc w = w := by
    simp (disch := rfl) only [fieldHigh, fieldD, fieldBit15, fieldC, fieldSel, fieldOpc,
      BitVec.extractLsb'_append_extractLsb'_eq_extractLsb']
    exact BitVec.extractLsb'_eq_self
  have ofFin : ∀ x : BitVec 3, BitVec.ofNat 3 x.toFin.val = x := by decide
  rw [h15, hhigh] at h
  rw [cmdWord, ofFin, ofFin]
  exact h.symm

/-! ### Opcodes and operands (R82, R83) -/

/-- The value of OPC that names an opcode (R82). -/
def opcOf (op : Opcode) : BitVec 8 :=
  match op with
  | .curopen => 0x10
  | .readbit => 0x11
  | .readbool => 0x12
  | .readu => 0x13
  | .reads => 0x14
  | .align => 0x15
  | .skip => 0x16
  | .size => 0x17
  | .slice => 0x18
  | .openFile => 0x20
  | .dirhdr => 0x21
  | .readPrefix => 0x22
  | .pct => 0x23
  | .setup => 0x24
  | .recon => 0x25
  | .decodeDir => 0x26

@[simp] theorem opcodeOf_opcOf (op : Opcode) : opcodeOf (opcOf op) = some op := by cases op <;> rfl

theorem eq_opcOf_of_opcodeOf {b : BitVec 8} {op : Opcode} (h : opcodeOf b = some op) : b = opcOf op := by
  unfold opcodeOf at h
  split at h <;> cases h <;> rfl

/-- The operands that the command has no use for are 0 (R83). -/
def OperandsFit (op : Opcode) (sel : Selector) (c d : CursorIx) : Prop :=
  (usesSel op = false → sel = 0) ∧ (usesC op = false → c = 0) ∧ (usesD op = false → d = 0)

section
variable {op : Opcode} {c : CursorIx}

theorem operandsFit_zero : OperandsFit op 0 0 0 := ⟨fun _ => rfl, fun _ => rfl, fun _ => rfl⟩

theorem operandsFit_source (h : usesC op = true) : OperandsFit op 0 c 0 :=
  ⟨fun _ => rfl, fun hu => absurd (h.symm.trans hu) nofun, fun _ => rfl⟩

end

/-! ### The decoder -/

theorem decode_cmdWord {op : Opcode} {sel : Selector} {c d : CursorIx} (h : OperandsFit op sel c d) :
    decode (cmdWord (opcOf op) sel c d) = .ok (instrOf op sel c d) := by
  obtain ⟨hsel, hc, hd⟩ := h
  have hc' : usesC op = false → BitVec.ofNat 3 c.val = 0 := fun hu => by rw [hc hu]; rfl
  have hd' : usesD op = false → BitVec.ofNat 3 d.val = 0 := fun hu => by rw [hd hu]; rfl
  have fin : ∀ x : CursorIx, (BitVec.ofNat 3 x.val).toFin = x := by decide
  unfold decode
  simp only [fieldOpc_cmdWord, opcodeOf_opcOf, fieldBit15_cmdWord, fieldHigh_cmdWord, fieldSel_cmdWord, fieldC_cmdWord,
    fieldD_cmdWord, fin]
  rw [if_neg (by simp), if_neg fun hu => hu.2 (hsel hu.1), if_neg fun hu => hu.2 (hc' hu.1), if_neg fun hu => hu.2 (hd' hu.1)]

/-- What the decoder accepts, and as what. -/
theorem decode_eq_ok {w : Word} {i : Instr} (h : decode w = .ok i) :
    ∃ op sel c d, OperandsFit op sel c d ∧ w = cmdWord (opcOf op) sel c d ∧ i = instrOf op sel c d := by
  unfold decode at h
  split at h
  · cases h
  next op hop =>
    split_ifs at h with hres hsel hc hd
    cases h
    refine ⟨op, fieldSel w, (fieldC w).toFin, (fieldD w).toFin, ⟨?_, ?_, ?_⟩, ?_, rfl⟩
    · exact fun hu => not_not.1 fun hne => hsel ⟨hu, hne⟩
    · exact fun hu => congrArg BitVec.toFin (not_not.1 fun hne => hc ⟨hu, hne⟩)
    · exact fun hu => congrArg BitVec.toFin (not_not.1 fun hne => hd ⟨hu, hne⟩)
    · rw [← eq_opcOf_of_opcodeOf hop]
      simp only [not_or, not_not] at hres
      exact eq_cmdWord hres.1 hres.2

/-! ### The encoder -/

theorem encode_readuOf : ∀ (sel : Selector) (c : CursorIx), encode (readuOf sel c) = cmdWord 0x13 sel c 0 := by decide

theorem encode_readsOf : ∀ (sel : Selector) (c : CursorIx), encode (readsOf sel c) = cmdWord 0x14 sel c 0 := by decide

theorem encode_instrOf {op : Opcode} {sel : Selector} {c d : CursorIx} (h : OperandsFit op sel c d) :
    encode (instrOf op sel c d) = cmdWord (opcOf op) sel c d := by
  obtain ⟨hsel, hc, hd⟩ := h
  cases op with
  | readu => rw [hd rfl]; exact encode_readuOf sel c
  | reads => rw [hd rfl]; exact encode_readsOf sel c
  | slice => rw [hsel rfl]; rfl
  | openFile | dirhdr | readPrefix | pct | setup | recon | decodeDir => rw [hsel rfl, hc rfl, hd rfl]; rfl
  | curopen | readbit | readbool | align | skip | size => rw [hsel rfl, hd rfl]; rfl

/-- Settles O1: each constructor's word is the word of its opcode, which the decoder reads back. -/
theorem decodeInvertsEncode : Obligations.DecodeInvertsEncode := by
  intro i
  cases i with
  | curopen c => exact decode_cmdWord (op := .curopen) (operandsFit_source rfl)
  | readbit c => exact decode_cmdWord (op := .readbit) (operandsFit_source rfl)
  | readbool c => exact decode_cmdWord (op := .readbool) (operandsFit_source rfl)
  | align c => exact decode_cmdWord (op := .align) (operandsFit_source rfl)
  | skip c => exact decode_cmdWord (op := .skip) (operandsFit_source rfl)
  | size c => exact decode_cmdWord (op := .size) (operandsFit_source rfl)
  | slice d c => exact decode_cmdWord (op := .slice) ⟨fun _ => rfl, nofun, nofun⟩
  | openFile => exact decode_cmdWord (op := .openFile) operandsFit_zero
  | dirhdr => exact decode_cmdWord (op := .dirhdr) operandsFit_zero
  | readPrefix => exact decode_cmdWord (op := .readPrefix) operandsFit_zero
  | pct => exact decode_cmdWord (op := .pct) operandsFit_zero
  | setup => exact decode_cmdWord (op := .setup) operandsFit_zero
  | recon => exact decode_cmdWord (op := .recon) operandsFit_zero
  | decodeDir => exact decode_cmdWord (op := .decodeDir) operandsFit_zero
  | readsW0 c | readsW1 c | readsW2 c | readsW4 c | readsW6 c | readsW8 c | readsW10 c | readsW12 c | readsW14 c | readsW16 c
  | readsW20 c | readsW24 c | readsW26 c | readsW28 c | readsW30 c | readsW32 c =>
    exact decode_cmdWord (op := .reads) ⟨nofun, nofun, fun _ => rfl⟩
  | readuW0 c | readuW1 c | readuW2 c | readuW4 c | readuW6 c | readuW8 c | readuW10 c | readuW12 c | readuW14 c | readuW16 c
  | readuW20 c | readuW24 c | readuW26 c | readuW28 c | readuW30 c | readuW32 c =>
    exact decode_cmdWord (op := .readu) ⟨nofun, nofun, fun _ => rfl⟩

/-- Settles O2: the decoder accepts only words of `cmdWord`, and the encoder gives that word back. -/
theorem encodeInvertsDecode : Obligations.EncodeInvertsDecode := by
  intro w i h
  obtain ⟨op, sel, c, d, hfit, rfl, rfl⟩ := decode_eq_ok h
  exact encode_instrOf hfit

/-! ### Legal words (R83) -/

section
variable {w : Word} {op : Opcode}

theorem opcLegal_iff : opcLegal w = true ↔ ∃ op, fieldOpc w = opcOf op := by
  have hsome : ∀ b : BitVec 8, (0x10 ≤ b.toNat ∧ b.toNat ≤ 0x18) ∨ (0x20 ≤ b.toNat ∧ b.toNat ≤ 0x26) →
      (opcodeOf b).isSome := by decide
  rw [opcLegal, decide_eq_true_eq]
  constructor
  · intro h
    obtain ⟨op, hop⟩ := Option.isSome_iff_exists.1 (hsome _ h)
    exact ⟨op, eq_opcOf_of_opcodeOf hop⟩
  · rintro ⟨op, hop⟩
    rw [hop]
    cases op <;> decide

theorem selLegal_iff (h : fieldOpc w = opcOf op) : selLegal w = true ↔ (usesSel op = false → fieldSel w = 0) := by
  rw [selLegal, h]
  cases op <;> simp [opcOf, usesSel]

theorem cLegal_iff (h : fieldOpc w = opcOf op) : cLegal w = true ↔ (usesC op = false → fieldC w = 0) := by
  rw [cLegal, h]
  cases op <;> simp [opcOf, usesC]

theorem dLegal_iff (h : fieldOpc w = opcOf op) : dLegal w = true ↔ (usesD op = false → fieldD w = 0) := by
  rw [dLegal, h]
  cases op <;> simp [opcOf, usesD]

theorem wordLegal_cmdWord {sel : Selector} {c d : CursorIx} (h : OperandsFit op sel c d) :
    wordLegal (cmdWord (opcOf op) sel c d) = true := by
  obtain ⟨hsel, hc, hd⟩ := h
  have hop := fieldOpc_cmdWord (opcOf op) sel c d
  simp only [wordLegal, Bool.and_eq_true]
  refine ⟨⟨⟨⟨opcLegal_iff.2 ⟨op, hop⟩, ?_⟩, (selLegal_iff hop).2 ?_⟩, (cLegal_iff hop).2 ?_⟩, (dLegal_iff hop).2 ?_⟩
  · rw [reservedLegal, fieldBit15_cmdWord, fieldHigh_cmdWord]; rfl
  · rwa [fieldSel_cmdWord]
  · exact fun hu => by rw [fieldC_cmdWord, hc hu]; rfl
  · exact fun hu => by rw [fieldD_cmdWord, hd hu]; rfl

theorem eq_cmdWord_of_legal (h : wordLegal w = true) :
    ∃ op sel c d, OperandsFit op sel c d ∧ w = cmdWord (opcOf op) sel c d := by
  simp only [wordLegal, reservedLegal, Bool.and_eq_true, decide_eq_true_eq] at h
  obtain ⟨⟨⟨⟨hopc, h15, hhigh⟩, hsel⟩, hc⟩, hd⟩ := h
  obtain ⟨op, hop⟩ := opcLegal_iff.1 hopc
  exact ⟨op, fieldSel w, (fieldC w).toFin, (fieldD w).toFin, ⟨(selLegal_iff hop).1 hsel,
    fun hu => congrArg BitVec.toFin ((cLegal_iff hop).1 hc hu), fun hu => congrArg BitVec.toFin ((dLegal_iff hop).1 hd hu)⟩,
    hop ▸ eq_cmdWord h15 hhigh⟩

end

/-- Settles O3: decoder and checks accept the same form of word. -/
theorem decoderAcceptsExactlyLegalWords : Obligations.DecoderAcceptsExactlyLegalWords := by
  intro w
  constructor
  · rintro ⟨i, h⟩
    obtain ⟨op, sel, c, d, hfit, rfl, -⟩ := decode_eq_ok h
    exact wordLegal_cmdWord hfit
  · intro h
    obtain ⟨op, sel, c, d, hfit, rfl⟩ := eq_cmdWord_of_legal h
    exact ⟨_, decode_cmdWord hfit⟩

/-- Settles O4: each word is evaluated. -/
theorem specExampleWordsDecode : Obligations.SpecExampleWordsDecode := by
  unfold Obligations.SpecExampleWordsDecode
  decide

end Sys2Proof

namespace Sys2Proof.Machine

theorem issue_of_illegal {w : Word} (h : wordLegal w = false) (s : State) :
    issue w s = .next (takeError .bitReader .illegalCommand s) := by
  cases hd : decode w with
  | ok i => simp [(decoderAcceptsExactlyLegalWords w).1 ⟨i, hd⟩] at h
  | error e => rw [issue, hd]

/-- Settles O6: an illegal word is issued as the error, which as no data error leaves FAILED (R252). -/
theorem illegalWordOnlyWritesErr : Obligations.IllegalWordOnlyWritesErr := by
  refine ⟨rfl, fun s rest v hq hv => ?_⟩
  rw [step_of_queue hq]
  show issue (v.setWidth 32) _ = _
  rw [issue_of_illegal hv]
  simp [takeError]

end Sys2Proof.Machine

/-! PROOF of O34 (R99, R200): PREFIX reads its lengths one after the other from cursor 0. Every state on the way is the first one
with other lengths and cursor 0 moved. -/
namespace Sys2Proof.Machine

open Sys2Proof.Claims

/-- PREFIX on `s` with cursor 0 = `k`, when it has read `n` bits and the lengths are `z`. -/
def prefixRead (s : State) (k : Cursor) (z : SubSizes) (n : Nat) : State :=
  { s with sizes := z, cursors := s.cursors.set cMain (movedTo k (k.pos.toNat + n)) }

section
variable {s : State} {k : Cursor} {z : SubSizes} {n : Nat}

theorem prefixRead_zero (hk : s.cursor cMain = k) : prefixRead s k s.sizes 0 = s := by
  have h := State.setCursor_same s cMain
  rw [hk] at h
  rw [prefixRead, Nat.add_zero, movedTo_pos]
  exact h

theorem prefixRead_cursor : (prefixRead s k z n).cursor cMain = movedTo k (k.pos.toNat + n) :=
  State.cursor_setCursor_self s cMain _

theorem prefixRead_setCursor {m : Nat} :
    (prefixRead s k z n).setCursor cMain (movedTo k (k.pos.toNat + m)) = prefixRead s k z m := by
  simp [prefixRead, State.setCursor]

/-- One length (R93, R200). -/
theorem run_readLength (g : Nat → SubSizes → SubSizes) (herr : k.err = false) (hlen : k.pos.toNat + (n + 20) ≤ k.len.toNat) :
    (readInto 20 fun v u => { u with sizes := g v u.sizes }).run (prefixRead s k z n) =
      .ok () (prefixRead s k (g (fieldAt s.src (nextBit k + n) 20) z) (n + 20)) := by
  have hpos : (movedTo k (k.pos.toNat + n)).pos.toNat = k.pos.toNat + n := pos_toNat_movedTo (.inr (by omega))
  have hb : ((prefixRead s k z n).cursor cMain).blocks 20 = false := by
    rw [prefixRead_cursor, Cursor.blocks_eq_false, hpos]
    exact ⟨herr, by rw [Nat.add_assoc]; exact hlen⟩
  have hnext : (prefixRead s k z n).setCursor cMain (((prefixRead s k z n).cursor cMain).advance 20) = prefixRead s k z (n + 20) := by
    rw [Cursor.advance_ok hb, prefixRead_cursor, hpos, Nat.add_assoc]
    exact prefixRead_setCursor
  rw [readInto, run_bind_ok (readOrFail_ok hb), run_write, hnext, prefixRead_cursor, hpos, nextBit, Nat.add_assoc]
  rfl

/-- The length of the EQ stream, if the flag calls for it (R99). -/
theorem run_eqLength (herr : k.err = false) (hlen : k.pos.toNat + 20 * s.compEq.toNat ≤ k.len.toNat) :
    (onlyIf s.compEq (readInto 20 fun v u => { u with sizes := { u.sizes with eq := BitVec.ofNat 20 v } })).run
      (prefixRead s k z 0) = .ok () (prefixRead s k
        { z with eq := if s.compEq then BitVec.ofNat 20 (fieldAt s.src (nextBit k) 20) else z.eq } (20 * s.compEq.toNat)) := by
  cases hc : s.compEq
  · rfl
  · rw [hc] at hlen
    exact run_readLength (fun v z => { z with eq := BitVec.ofNat 20 v }) herr (by simpa using hlen)

/-- The two lengths of the raw streams, if the flag calls for them (R99). -/
theorem run_rawLengths (herr : k.err = false) (hlen : k.pos.toNat + (n + 40 * s.hasRaw.toNat) ≤ k.len.toNat) :
    (onlyIf s.hasRaw do
      readInto 20 fun v u => { u with sizes := { u.sizes with rawu := BitVec.ofNat 20 v } }
      readInto 20 fun v u => { u with sizes := { u.sizes with rawc := BitVec.ofNat 20 v } }).run (prefixRead s k z n) =
    .ok () (prefixRead s k { z with
      rawu := if s.hasRaw then BitVec.ofNat 20 (fieldAt s.src (nextBit k + n) 20) else z.rawu
      rawc := if s.hasRaw then BitVec.ofNat 20 (fieldAt s.src (nextBit k + (n + 20)) 20) else z.rawc }
      (n + 40 * s.hasRaw.toNat)) := by
  cases hw : s.hasRaw
  · rfl
  · rw [hw, Bool.toNat_true] at hlen
    refine (run_bind_ok (run_readLength (fun v z => { z with rawu := BitVec.ofNat 20 v }) herr (by omega))).trans ?_
    exact run_readLength (fun v z => { z with rawc := BitVec.ofNat 20 v }) herr (by omega)

/-- The lengths PREFIX leaves when it reads from bit address `b` on (R99, R200). -/
def prefixSizes (s : State) (b : Nat) : SubSizes where
  eq := if s.compEq then BitVec.ofNat 20 (fieldAt s.src b 20) else s.sizes.eq
  mask := BitVec.ofNat 20 (fieldAt s.src (b + 20 * s.compEq.toNat) 20)
  rawu := if s.hasRaw then BitVec.ofNat 20 (fieldAt s.src (b + 20 * s.compEq.toNat + 20) 20) else s.sizes.rawu
  rawc := if s.hasRaw then BitVec.ofNat 20 (fieldAt s.src (b + 20 * s.compEq.toNat + 40) 20) else s.sizes.rawc

theorem run_prefixCmd (hk : s.cursor cMain = k) (hr : s.readyAt .hdr) (herr : k.err = false)
    (hlen : k.pos.toNat + 20 * prefixCount s ≤ k.len.toNat) : prefixCmd.run s =
      .ok () { prefixRead s k (prefixSizes s (nextBit k)) (20 * prefixCount s) with stage := .prefixed } := by
  have hcount : 20 * prefixCount s = 20 * s.compEq.toNat + 20 + 40 * s.hasRaw.toNat := by rw [prefixCount]; omega
  rw [hcount] at hlen ⊢
  refine (run_raiseWhen_pass (by rw [stageReady_iff.2 hr]; rfl)).trans ?_
  have heq := run_eqLength (s := s) (z := s.sizes) herr (by omega)
  rw [prefixRead_zero hk] at heq
  refine (run_bind_ok heq).trans ?_
  refine (run_bind_ok (run_readLength (fun v z => { z with mask := BitVec.ofNat 20 v }) herr (by omega))).trans ?_
  refine (run_bind_ok (run_rawLengths (s := s) herr (by omega))).trans ?_
  rw [run_write, prefixSizes]
  simp only [Nat.add_assoc]

end

/-- Settles O34: the lengths in order, then STAGE and ERR. -/
theorem prefixReadsLengths : Obligations.PrefixReadsLengths := by
  rintro s k p hk hstage hfailed herr hlen rfl
  exact complete_ok (run_prefixCmd hk ⟨hstage, hfailed⟩ herr hlen)

end Sys2Proof.Machine

/-! PROOF of O37 (R101, R201 to R203, R206): SETUP when its sub-streams and its grid fit, from `setupCmd_outcome`. -/
namespace Sys2Proof.Machine

open Sys2Proof.Claims

theorem run_setupCmd_fit {s : State} {k : Cursor} (hk : s.cursor cMain = k) (hr : s.readyAt .pct) (h : SubStreamsFit s k 4)
    (hcap : s.sizeGrid.cells ≤ s.params.maxCells) :
    ∃ u, CarvedTo s k 4 u ∧
      setupCmd.run s = .ok () { u.carveRest.sizeGrid.emptyResults with stage := .setup } := by
  have hout := setupCmd_outcome hk hr s rfl
  revert hout
  cases setupCmd.run s with
  | ok _ t =>
    rintro ⟨-, u, hu, rfl⟩
    exact ⟨u, hu, rfl⟩
  | error e t =>
    rintro (⟨-, i, hi, hf⟩ | ⟨-, hlt, -⟩)
    · exact absurd hf.misfit (not_firstMisfit_of_fit h hi)
    · exact absurd hlt (Nat.not_lt.2 hcap)

/-- Settles O37: the cursors of `CarvedTo`, the grid, and LAST emptied below it. -/
theorem setupCarvesSubStreams : Obligations.SetupCarvesSubStreams := by
  intro s k hk hstage hfailed herr hext hle hcap
  obtain ⟨u, hu, hrun⟩ := run_setupCmd_fit hk ⟨hstage, hfailed⟩ (subStreamsFit_four.2 ⟨herr, hle⟩) (cells_sizeGrid hext ▸ hcap)
  obtain ⟨hx, hy, hcols, hrows⟩ := hext
  have hstream : ∀ c : CursorIx, 1 ≤ c.val → c.val ≤ 4 → u.carveRest.cursor c = carved s k (c.val - 1) := fun c h1 h4 =>
    (State.carveRest_other (Fin.ne_of_val_ne (Nat.ne_of_lt (Nat.lt_succ_of_le h4)))).trans (hu.made c h1 h4)
  have hmain := (State.carveRest_other (s := u) (by decide)).trans hu.main
  have hinc := hu.carveRest_inc
  have hgrid := hu.sizeGrid_carveRest
  rw [lensBefore_four] at hmain hinc
  refine ⟨_, complete_ok hrun, (hstream cEq (by decide) (by decide)).trans ?_, (hstream cMask (by decide) (by decide)).trans ?_,
    (hstream cRawu (by decide) (by decide)).trans ?_, (hstream cRawc (by decide) (by decide)).trans ?_,
    hinc.trans (by rw [herr]), hmain.trans ?_, (State.carveRest_other (by decide)).trans (hu.untouched 6 (by decide)),
      (State.carveRest_other (by decide)).trans (hu.untouched 7 (by decide)), ?_, ?_, fun j => ?_, ?_⟩
  · simp [carved, lensBefore, subLens]
  · simp [carved, lensBefore, subLens]
  · simp [carved, lensBefore, subLens]
  · simp [carved, lensBefore, subLens, Nat.add_assoc]
  · simp only [Nat.add_assoc]
  · show u.carveRest.sizeGrid.gw.toNat = _
    rw [hgrid]
    exact cellCount_toNat hx hcols
  · show u.carveRest.sizeGrid.gh.toNat = _
    rw [hgrid]
    exact cellCount_toNat hy hrows
  · show Store.get none (Store.clearBelow u.carveRest.sizeGrid.last u.carveRest.sizeGrid.cells) j =
      if j < u.carveRest.sizeGrid.cells then none else s.lastEntry j
    rw [Store.get_clearBelow, hgrid]
    rfl
  · rw [hgrid]
    rfl

end Sys2Proof.Machine

/-! PROOF of O49 (R103, R218): no part of RECON reads or writes cursor 5, so putting another value into it before or after RECON is
the same. -/
namespace Sys2Proof.Machine

variable {α β : Type} {k : Cursor}

/-- Putting `k` into cursor 5, where a command has ended (R25). -/
def withInc (k : Cursor) (r : EStateM.Result ErrorKind State α) : EStateM.Result ErrorKind State α :=
  match r with
  | .ok a t => .ok a (t.setCursor cInc k)
  | .error e t => .error e (t.setCursor cInc k)

/-- The command ends in the same way whatever cursor 5 holds, and leaves it. -/
def IgnoresInc (k : Cursor) (x : Cmd α) : Prop := ∀ s, x.run (s.setCursor cInc k) = withInc k (x.run s)

/-! ### The rules of the constructs -/

theorem IgnoresInc.pure {a : α} : IgnoresInc k (pure a : Cmd α) := fun _ => rfl

theorem IgnoresInc.bind {x : Cmd α} {f : α → Cmd β} (hx : IgnoresInc k x) (hf : ∀ a, IgnoresInc k (f a)) :
    IgnoresInc k (x >>= f) := by
  intro s
  rw [run_bind, run_bind, hx]
  cases x.run s with
  | ok a t => exact hf a t
  | error e t => rfl

theorem IgnoresInc.write {f : State → State} (h : ∀ s, f (s.setCursor cInc k) = (f s).setCursor cInc k) :
    IgnoresInc k (write f) := fun s => congrArg (EStateM.Result.ok ()) (h s)

theorem IgnoresInc.raiseWhen {p : State → Bool} {e : ErrorKind} (h : ∀ s, p (s.setCursor cInc k) = p s) :
    IgnoresInc k (raiseWhen p e) := by
  intro s
  rw [run_raiseWhen, run_raiseWhen, h]
  cases p s <;> rfl

theorem IgnoresInc.withState {f : State → Cmd α} (hf : ∀ s, f (s.setCursor cInc k) = f s) (hx : ∀ s, IgnoresInc k (f s)) :
    IgnoresInc k (withState f) := by
  intro s
  rw [run_withState, hf]
  exact hx s s

theorem IgnoresInc.forBelow {body : Nat → Cmd Unit} (h : ∀ i, IgnoresInc k (body i)) (n : Nat) :
    IgnoresInc k (forBelow n body) := by
  induction n with
  | zero => exact .pure
  | succ n ih => exact ih.bind fun _ => h n

theorem IgnoresInc.forEach {γ : Type} {body : γ → Cmd Unit} (h : ∀ x, IgnoresInc k (body x)) (xs : List γ) :
    IgnoresInc k (forEach xs body) := by
  induction xs with
  | nil => exact .pure
  | cons x xs ih => exact (h x).bind fun _ => ih

/-! ### The parts of RECON (R210) -/

theorem State.setCursor_comm (s : State) {c d : CursorIx} (h : c ≠ d) (k l : Cursor) :
    (s.setCursor c k).setCursor d l = (s.setCursor d l).setCursor c k :=
  congrArg (fun cs => ({ s with cursors := cs } : State)) (Vector.set_comm _ _ (Fin.val_ne_of_ne h))

/-- Reading another cursor (R70). -/
theorem readOrFail_ignoresInc {c : CursorIx} {w : Nat} (h : c ≠ cInc) : IgnoresInc k (readOrFail c w) := by
  have hcur : ∀ s : State, (s.setCursor cInc k).cursor c = s.cursor c := fun s => State.cursor_setCursor_other s k h
  refine IgnoresInc.bind (fun s => ?_) fun _ => (IgnoresInc.raiseWhen fun s => ?_).bind fun _ => .pure
  · rw [run_curRead, run_curRead, hcur, State.setCursor_comm s h.symm]
    rfl
  · simp only [hcur]

theorem readMask_ignoresInc {h : Option Word} : IgnoresInc k (readMask h) := by
  cases h with
  | none => exact .pure
  | some j => exact (readOrFail_ignoresInc (by decide)).bind fun _ => .pure

theorem readRawUsage_ignoresInc : IgnoresInc k readRawUsage := by
  refine IgnoresInc.withState (fun _ => rfl) fun s => ?_
  cases s.hasRaw with
  | false => exact .pure
  | true => exact (readOrFail_ignoresInc (by decide)).bind fun _ => .pure

theorem readCodes_ignoresInc {raw : Bool} {n : Nat} {p : List Byte} : IgnoresInc k (readCodes raw n p) := by
  induction n generalizing p with
  | zero => exact .pure
  | succ n ih =>
    cases raw with
    | false => exact fun _ => rfl
    | true =>
      refine (readOrFail_ignoresInc (by decide)).bind fun v => ?_
      split
      · exact .pure
      · exact ih

theorem mapAppend_ignoresInc {f c : Nat} {j : Word} {reused : Bool} : IgnoresInc k (mapAppend f c j reused) :=
  (IgnoresInc.raiseWhen fun _ => rfl).bind fun _ => .write fun _ => rfl

theorem recordEntry_ignoresInc {f c : Nat} {e : Slots} : IgnoresInc k (recordEntry f c e) :=
  .withState (fun _ => rfl) fun _ => ((IgnoresInc.raiseWhen fun _ => rfl).bind fun _ => .write fun _ => rfl).bind fun _ =>
    (IgnoresInc.write fun _ => rfl).bind fun _ => mapAppend_ignoresInc

theorem decodeCell_ignoresInc {f c : Nat} {h : Option Word} : IgnoresInc k (decodeCell f c h) :=
  readMask_ignoresInc.bind fun _ => readRawUsage_ignoresInc.bind fun _ => readCodes_ignoresInc.bind fun _ =>
    .withState (fun _ => rfl) fun _ => recordEntry_ignoresInc

theorem cellStep_ignoresInc {f c : Nat} : IgnoresInc k (cellStep f c) := by
  refine IgnoresInc.withState (fun _ => rfl) fun s => ?_
  split
  · refine (readOrFail_ignoresInc (by decide)).bind fun b => ?_
    split
    · exact mapAppend_ignoresInc
    · exact decodeCell_ignoresInc
  · exact decodeCell_ignoresInc

theorem reconCmd_ignoresInc : IgnoresInc k reconCmd := by
  refine (IgnoresInc.raiseWhen fun _ => rfl).bind fun _ => IgnoresInc.bind ?_ fun _ => .write fun _ => rfl
  refine .withState (fun _ => rfl) fun s => .forBelow (fun f => ?_) _
  exact .withState (fun _ => rfl) fun t => .forEach (fun _ => cellStep_ignoresInc) _

/-- Settles O49: RECON ignores cursor 5, and so does ending it. -/
theorem incrementalStreamNeverRead : Obligations.IncrementalStreamNeverRead := by
  intro s t k ht
  have hrun := reconCmd_ignoresInc (k := k) s
  rcases complete_cases ht with ⟨u, hu, rfl⟩ | ⟨e, u, hu, rfl⟩
  · rw [hu] at hrun
    exact complete_ok hrun
  · rw [hu] at hrun
    exact complete_error hrun

end Sys2Proof.Machine

/-! PROOF of O30 (R93, R96 to R98, R160 to R169): DIRHDR on a direction that holds all of its headers and optional data raises
nothing. What the registers and FH then hold is `exec_dirhdr_directionWithin`; where cursor 0 stands is followed here. -/
namespace Sys2Proof.Machine

open Sys2Proof.Claims

variable {m : Memory} {b q w N n f : Nat} {x : Selectors} {s u : State}

/-- What a command meets when it raises nothing. -/
abbrev Ends {α : Type} (P : State → Prop) (x : Cmd α) (Q : α → State → Prop) : Prop := Meets P x Q fun _ _ => False

/-- A command that raises nothing ends as any of its rules says. -/
theorem Meets.and_ends {α : Type} {P P' : State → Prop} {x : Cmd α} {Q Q' : α → State → Prop} {E : ErrorKind → State → Prop}
    (h : Meets P x Q E) (h' : Ends P' x Q') : Ends (fun s => P s ∧ P' s) x fun a t => Q a t ∧ Q' a t := by
  rintro s ⟨hs, hs'⟩
  obtain ⟨a, t, hrun, ht⟩ := h'.ends hs'
  rw [hrun]
  exact ⟨h.ok hs hrun, ht⟩

/-! ### Reads that the direction holds -/

theorem readInto_ends {g : Nat → State → State} (hw : q + w ≤ N)
    (hkept : ∀ v s, (g v s).src = s.src ∧ (g v s).cursors = s.cursors) :
    Ends (ReadTo m b N q) (readInto w g) fun _ => ReadTo m b N (q + w) :=
  (readInto_at (C := fun _ => True) (D := fun _ => True) (fun _ _ _ => trivial) hkept (fun _ _ _ => trivial)
    fun _ _ hlt _ => absurd hw (Nat.not_le.2 hlt)).weaken (fun _ h => ⟨h, trivial⟩) (fun _ _ h => h.1) fun _ _ h => h

theorem readDirectionHeader_ends (h : 62 ≤ N) :
    Ends (ReadTo m b N 0) readDirectionHeader fun _ => ReadTo m b N 62 := by
  refine Meets.bind (readInto_ends (by omega) fun _ _ => ⟨rfl, rfl⟩) fun _ => ?_
  refine Meets.bind (readInto_ends (by omega) fun _ _ => ⟨rfl, rfl⟩) fun _ => ?_
  refine Meets.bind (readInto_ends (by omega) fun _ _ => ⟨rfl, rfl⟩) fun _ => ?_
  refine Meets.bind (readInto_ends (by omega) fun _ _ => ⟨rfl, rfl⟩) fun _ => ?_
  refine Meets.bind (readInto_ends (by omega) fun _ _ => ⟨rfl, rfl⟩) fun _ => ?_
  refine Meets.bind (readInto_ends (by omega) fun _ _ => ⟨rfl, rfl⟩) fun _ => ?_
  refine Meets.bind (readInto_ends (by omega) fun _ _ => ⟨rfl, rfl⟩) fun _ => ?_
  refine Meets.bind (readInto_ends (by omega) fun _ _ => ⟨rfl, rfl⟩) fun _ => ?_
  refine Meets.bind (readInto_ends (by omega) fun _ _ => ⟨rfl, rfl⟩) fun _ => ?_
  exact readInto_ends (by omega) fun _ _ => ⟨rfl, rfl⟩

theorem readFrameHeader_ends (h : frameStart x (f + 1) ≤ N) :
    Ends (fun s => ReadTo m b N (frameStart x f) s ∧ s.sels = x) (readFrameHeader f) fun _ => ReadTo m b N (frameStart x (f + 1)) := by
  have hend := frameStart_succ (x := x) (f := f)
  simp only [frameHeaderWidth, ← Nat.add_assoc] at hend
  refine Meets.withState fun s hs => ?_
  rw [hs.2]
  have hfield : ∀ q w (g : Nat → FrameHeader → FrameHeader), q + w ≤ N →
      Ends (ReadTo m b N q) (readFrameField f w g) fun _ => ReadTo m b N (q + w) :=
    fun q w g hw => readInto_ends hw fun _ _ => ⟨rfl, rfl⟩
  refine Meets.weaken (P := ReadTo m b N (frameStart x f)) ?_ (fun _ ht => ht ▸ hs.1) (fun _ _ h => h) (fun _ _ h => h)
  refine Meets.bind (hfield _ _ _ (by omega)) fun _ => ?_
  refine Meets.bind (hfield _ _ _ (by omega)) fun _ => ?_
  refine Meets.bind (hfield _ _ _ (by omega)) fun _ => ?_
  refine Meets.bind (hfield _ _ _ (by omega)) fun _ => ?_
  refine Meets.bind (hfield _ _ _ (by omega)) fun _ => ?_
  refine Meets.bind (hfield _ _ _ (by omega)) fun _ => ?_
  refine Meets.bind (hfield _ _ _ (by omega)) fun _ => ?_
  refine Meets.bind (hfield _ _ _ (by omega)) fun _ => ?_
  exact Meets.write fun t ht => by rw [hend]; exact ht.of_same ⟨rfl, rfl⟩

/-! ### The optional data (R98, R167) -/

theorem le_optionalEnd {g : Nat → Nat} {p i j : Nat} (h : i ≤ j) : optionalEnd g p i ≤ optionalEnd g p j := by
  refine monotone_nat_of_le_succ (fun n => ?_) h
  rw [optionalEnd]
  split <;> omega

/-- A block of `l` bytes: aligned, then skipped. -/
theorem skipBlock_ends {l : Nat} (h : 8 * ((q + 7) / 8) + 8 * l ≤ N) :
    Ends (ReadTo m b N q) (skipBlock l) fun _ => ReadTo m b N (8 * ((q + 7) / 8) + 8 * l) := by
  refine Meets.bind (Q := fun _ => ReadTo m b N (8 * ((q + 7) / 8))) (Meets.write fun s hs => ?_) fun _ => ?_
  · have hal := (s.cursor cMain).pos_add_toAlign
    rw [hs.pos] at hal
    rw [← hal]
    exact hs.advance (by omega)
  · refine Meets.bind (Q := fun _ => ReadTo m b N (8 * ((q + 7) / 8) + 8 * l)) (Meets.write fun s hs => hs.advance h) fun _ => ?_
    exact Meets.raiseWhen (fun _ hs _ => hs) fun s hs herr => by simp [hs.err] at herr

/-- The frame headers are read, and frame `f` has `g f` bytes of optional data. -/
def OptionalSizes (n : Nat) (g : Nat → Nat) (u : State) : Prop :=
  u.header.fpd.toNat = n ∧ ∀ f, f < n → (u.frame f).optb.toNat = g f

/-- A property that no move of cursor 0 touches goes along. -/
theorem skipBlock_keeps {P : State → Prop} (hm : ∀ s k, P s → P (s.setCursor cMain k)) {l : Nat} : Keeps P (skipBlock l) :=
  Keeps.bind (Keeps.write fun s h => hm s _ h) fun _ => Keeps.bind (Keeps.write fun s h => hm s _ h) fun _ => Keeps.failIfErr

theorem skipOptional_ends {g : Nat → Nat} {p : Nat} (hf : f < n) (h : optionalEnd g p (f + 1) ≤ N) :
    Ends (fun u => OptionalSizes n g u ∧ ReadTo m b N (optionalEnd g p f) u) (skipOptional f)
      fun _ u => OptionalSizes n g u ∧ ReadTo m b N (optionalEnd g p (f + 1)) u := by
  refine withState_meets fun s ⟨hs, _⟩ => ?_
  have hsize := hs.2 f hf
  have hzero : (s.frame f).optb = 0 ↔ g f = 0 := by rw [← hsize, ← BitVec.toNat_inj]; rfl
  rw [optionalEnd] at h ⊢
  by_cases hz : g f = 0
  · rw [if_pos (hzero.2 hz), if_pos hz]
    exact Meets.pure fun _ ht => ht
  · rw [if_neg (mt hzero.1 hz), if_neg hz, hsize]
    rw [if_neg hz] at h
    exact (skipBlock_keeps fun _ _ ht => ht).and_ends (skipBlock_ends h)

/-! ### The frames -/

theorem selWidth_le (y : Selector) : selWidth y ≤ 32 := by revert y; decide

/-- A direction that holds its 62-bit header has the selectors of the stream (R93). -/
theorem selectorsWithin_of_le (h : 62 ≤ N) : selectorsWithin m b N = selectorsAt m b := by
  simp (disch := omega) only [selectorsWithin, selectorsAt, fieldWithin_of_le]

theorem decide_fieldAt_one (m : Memory) (p : Nat) : decide (fieldAt m p 1 = 1) = srcBit m p := by
  cases h : srcBit m p <;> simp [fieldAt, h]

/-- Inside a direction that holds the whole frame header, its fields are the stream's (R96). -/
theorem FieldsWithin.fieldsFrom {p : Nat} {h : FrameHeader} (hw : FieldsWithin m b N p x h) (hp : p + frameHeaderWidth x ≤ N) :
    FieldsFrom m (b + p) x h := by
  unfold frameHeaderWidth at hp
  simp (disch := omega) only [FieldsWithin, optbAt, fieldWithin_of_le, decide_fieldAt_one] at hw
  obtain ⟨hvar0, hwidth, hheight, hxoff, hyoff, hoptb, hcodedb, hup, -⟩ := hw
  simp only [FieldsFrom, optbAt, Nat.add_assoc] at *
  exact ⟨hvar0, hwidth, hheight, hxoff, hyoff, hoptb, hcodedb, hup⟩

/-- The number of bytes of optional data of frame `f` of the direction at bit address `b` (R96). -/
def optionalBytes (m : Memory) (b f : Nat) : Nat :=
  fieldAt m (b + 62 + f * frameHeaderWidth (selectorsAt m b) + optbAt (selectorsAt m b)) (selWidth (selectorsAt m b).optb)

/-- A whole frame header of the direction (R96, R97). -/
theorem DirectionWithin.fieldsFrom (h : DirectionWithin m b N u) (hf : f < u.header.fpd.toNat)
    (hN : frameStart (selectorsAt m b) (f + 1) ≤ N) :
    FieldsFrom m (b + frameStart (selectorsAt m b) f) (selectorsAt m b) (u.frame f) := by
  obtain ⟨⟨-, -, -, hsels⟩, hframes⟩ := h
  have h62 : 62 ≤ N := Nat.le_trans (Nat.le_add_right ..) hN
  rw [hframes f hf, hsels, selectorsWithin_of_le h62]
  exact FieldsWithin.fieldsFrom fieldsWithin_frameWithin (frameStart_succ ▸ hN)

theorem DirectionWithin.optionalSizes (h : DirectionWithin m b N u) (hn : u.header.fpd.toNat = n)
    (hN : frameStart (selectorsAt m b) n ≤ N) : OptionalSizes n (optionalBytes m b) u := by
  refine ⟨hn, fun f hf => ?_⟩
  obtain ⟨-, -, -, -, -, hoptb, -⟩ := h.fieldsFrom (hn ▸ hf) (Nat.le_trans (frameStart_mono hf) hN)
  rw [hoptb, BitVec.toNat_ofNat, Nat.mod_eq_of_lt, optionalBytes, frameStart, ← Nat.add_assoc]
  exact Nat.lt_of_lt_of_le (fieldAt_lt ..) (Nat.pow_le_pow_right (by decide) (selWidth_le _))

/-! ### DIRHDR -/

/-- DIRHDR after its prerequisites: what it reads, and its last writes (R160). -/
def readDirection : Cmd Unit := do
  readDirectionHeader
  withState fun s => forBelow s.header.fpd.toNat readFrameHeader
  withState fun s => forBelow s.header.fpd.toNat skipOptional
  write fun s => { s with extents := s.unionExtents }
  write fun s => { s with stage := .hdr }

theorem run_dirhdrCmd (hd : directionSelected s) : dirhdrCmd.run s = readDirection.run s.beginDirection := by
  refine (run_raiseWhen_pass (decide_eq_false hd.1)).trans ?_
  exact run_raiseWhen_pass (decide_eq_false (Nat.not_le.2 hd.2))

/-- Before frame `f`'s header is read, with cursor 0 at its place. -/
def AtFrame (m : Memory) (b N n f : Nat) (u : State) : Prop :=
  FramesReadBelow m b N n f u ∧ ReadTo m b N (frameStart (selectorsAt m b) f) u

theorem readFrameHeader_next (hf : f < n) (h : frameStart (selectorsAt m b) (f + 1) ≤ N) :
    Ends (AtFrame m b N n f) (readFrameHeader f) fun _ => AtFrame m b N n (f + 1) := by
  have hx := selectorsWithin_of_le (m := m) (b := b) (Nat.le_trans (Nat.le_add_right ..) h)
  have hread := readFrameHeader_at (m := m) (b := b) (N := N) (n := n) (x := selectorsWithin m b N) (f := f)
  have hends := readFrameHeader_ends (m := m) (b := b) h
  refine (hread.and_ends hends).weaken (fun u hu => ?_) (fun _ u hu => ?_) fun _ _ hu => hu
  · obtain ⟨⟨hframes, -, hpos⟩, hr⟩ := hu
    exact ⟨⟨hpos hf, hframes⟩, hr, hframes.2.2.1.trans hx⟩
  · obtain ⟨⟨hpos, hframes⟩, hr⟩ := hu
    exact ⟨⟨hframes, hpos.le, fun _ => hpos⟩, hr⟩

theorem readFrameHeaders_ends (h : frameStart (selectorsAt m b) n ≤ N) :
    Ends (AtFrame m b N n 0) (withState fun s => forBelow s.header.fpd.toNat readFrameHeader) fun _ => AtFrame m b N n n := by
  refine withState_meets fun s hs => ?_
  obtain ⟨⟨⟨hn, -⟩, -⟩, -⟩ := hs
  rw [hn]
  exact Meets.forBelow n fun f hf => readFrameHeader_next hf (Nat.le_trans (frameStart_mono hf) h)

/-- The optional data of all frames (R167, R169). -/
theorem skipOptionals_ends (h : headersEnd m b n ≤ N) : Ends (AtFrame m b N n n)
    (withState fun s => forBelow s.header.fpd.toNat skipOptional) fun _ => ReadTo m b N (headersEnd m b n) := by
  refine withState_meets fun s hs => ?_
  obtain ⟨⟨⟨hn, -⟩, -⟩, -⟩ := hs
  rw [hn]
  have hskip := Meets.forBelow (I := fun f u => OptionalSizes n (optionalBytes m b) u ∧
    ReadTo m b N (optionalEnd (optionalBytes m b) (frameStart (selectorsAt m b) n) f) u) n
    fun f hf => skipOptional_ends hf (Nat.le_trans (le_optionalEnd hf) h)
  refine hskip.weaken (fun u hu => ⟨?_, hu.2⟩) (fun _ _ hu => hu.2) fun _ _ hu => hu
  exact hu.1.directionWithin.optionalSizes hu.1.1.1 hu.2.le

theorem readDirection_ends (hN : headersEnd m b n ≤ N) :
    Ends (fun u => ReadTo m b N 0 u ∧ HeaderReadTo m b n 0 u) readDirection fun _ => ReadTo m b N (headersEnd m b n) := by
  have hframes : frameStart (selectorsAt m b) n ≤ N := Nat.le_trans (le_optionalEnd (Nat.zero_le n)) hN
  have h62 : 62 ≤ N := Nat.le_trans (Nat.le_add_right ..) hframes
  refine Meets.bind (Q := fun _ => AtFrame m b N n 0) ?_ fun _ => ?_
  · refine (readDirectionHeader_at.and_ends (readDirectionHeader_ends h62)).weaken (fun u h => ⟨h, h.1⟩)
      (fun _ u ⟨⟨hr, h⟩, _⟩ => ⟨h.framesReadBelow hr, ?_⟩) fun _ _ h => h
    rwa [frameStart, Nat.zero_mul]
  refine Meets.bind (readFrameHeaders_ends hframes) fun _ => Meets.bind (skipOptionals_ends hN) fun _ => ?_
  refine Meets.bind (Q := fun _ => ReadTo m b N (headersEnd m b n)) (Meets.write fun _ h => h.of_same ⟨rfl, rfl⟩) fun _ => ?_
  exact Meets.write fun _ h => h.of_same ⟨rfl, rfl⟩

/-- DIRHDR on a direction that holds all its headers and optional data: cursor 0 behind them, and what its other rules say. -/
theorem dirhdrCmd_whole {a l : Nat} (hd : directionSelected s) (hb : directionBytes s a l)
    (hN : headersEnd s.src (8 * a) s.header.fpd.toNat ≤ 8 * l) :
    ∃ u, dirhdrCmd.run s = .ok () u ∧ u.readyAt .hdr ∧ DirectionCleared s u ∧ DirectionWithin s.src (8 * a) (8 * l) u ∧
      ReadTo s.src (8 * a) (8 * l) (headersEnd s.src (8 * a) s.header.fpd.toNat) u := by
  obtain ⟨_, u, hrun, hpos⟩ := (readDirection_ends hN).ends (beginDirection_readTo hb)
  rw [← run_dirhdrCmd hd] at hrun
  exact ⟨u, hrun, ((dirhdrCmd_ends s).ok rfl hrun).2, (dirhdrCmd_clears hd).ok rfl hrun,
    (dirhdrCmd_directionWithin hd hb).ok rfl hrun, hpos⟩

theorem ReadTo.cursor (h : ReadTo m b N q s) :
    s.cursor cMain = ⟨BitVec.ofNat 64 b, BitVec.ofNat 64 q, BitVec.ofNat 64 N, false⟩ := by
  rw [← h.base, ← h.pos, ← h.len, ← h.err]
  simp

/-- Settles O30: the fields are those of `DirectionWithin`, which a direction as long as `headersEnd` all holds. -/
theorem dirhdrParsesDirection : Obligations.DirhdrParsesDirection := by
  rintro s a l b hd hb rfl hN
  obtain ⟨u, hrun, ⟨hstage, hfailed⟩, hcl, hw, hpos⟩ := dirhdrCmd_whole hd hb hN
  have hframes : frameStart (selectorsAt s.src (8 * a)) s.header.fpd.toNat ≤ 8 * l :=
    Nat.le_trans (le_optionalEnd (Nat.zero_le _)) hN
  have h62 : 62 ≤ 8 * l := Nat.le_trans (Nat.le_add_right ..) hframes
  obtain ⟨hsize, hraw, heq, hsels⟩ := hw.1
  refine ⟨_, complete_ok hrun, rfl, hstage, hfailed, ?_, hsize.trans ?_, hraw.trans ?_, heq.trans ?_,
    hsels.trans (selectorsWithin_of_le h62), fun f hf => ?_, hpos.cursor⟩
  · show u.dirIdx.toNat = _
    rw [hcl.frame]
    exact Nat.mod_eq_of_lt (Nat.lt_trans hd.2 s.header.dirCnt.isLt)
  · rw [fieldWithin_of_le (by omega), Nat.add_zero]
  · rw [fieldWithin_of_le (by omega), decide_fieldAt_one]
  · rw [fieldWithin_of_le (by omega), decide_fieldAt_one]
  · rw [Nat.add_assoc]
    exact hw.fieldsFrom (hcl.header ▸ hf) (Nat.le_trans (frameStart_mono hf) hframes)

end Sys2Proof.Machine

/-! PROOF of O51 (R99, R168, R207, R225): the five stages of DECODE on a direction without frames, each from the state the one before
it ended in. -/
namespace Sys2Proof.Machine

open Sys2Proof.Claims

variable {m : Memory} {b q N : Nat} {raw eq : Bool} {s u v : State}

/-- A direction without frames, with zero extents and the flags `raw` and `eq` (R36, R168). -/
structure Frameless (raw eq : Bool) (u : State) : Prop where
  fpd : u.header.fpd = 0
  extents : u.extents = ⟨0, 0, 0, 0⟩
  hasRaw : u.hasRaw = raw
  compEq : u.compEq = eq

/-! ### DIRHDR and PREFIX -/

/-- Without frames the extents stay those of DirClear (R168). -/
theorem dirhdrCmd_frameless_extents (hn : s.header.fpd = 0) :
    Meets (fun u => u = s) dirhdrCmd (fun _ u => u.extents = ⟨0, 0, 0, 0⟩) fun _ _ => True := by
  refine dirhdrCmd_meets_simple (A := fun u => u.header.fpd = 0 ∧ u.extents = ⟨0, 0, 0, 0⟩) (fun _ _ _ => trivial)
    (fun _ _ _ _ => trivial) (fun u hu _ => ⟨hu ▸ hn, rfl⟩)
    ⟨fun _ _ h => h, fun _ _ h => h, fun _ _ h => h, fun _ _ h => h, fun _ _ h => h⟩ (fun _ _ _ _ h => h) (fun _ _ => trivial)
    fun u h => ?_
  exact (unionExtents_frameless h.1).trans h.2

theorem dirhdrCmd_frameless {a l : Nat} (hd : directionSelected s) (hb : directionBytes s a l) (hn : s.header.fpd = 0)
    (h62 : 62 ≤ 8 * l) : ∃ u, dirhdrCmd.run s = .ok () u ∧ u.readyAt .hdr ∧ ReadTo s.src (8 * a) (8 * l) 62 u ∧
      Frameless (srcBit s.src (8 * a + 32)) (srcBit s.src (8 * a + 33)) u := by
  have hend : headersEnd s.src (8 * a) s.header.fpd.toNat = 62 := by simp [headersEnd, hn, optionalEnd]
  obtain ⟨u, hrun, hr, hcl, ⟨⟨-, hraw, heq, -⟩, -⟩, hpos⟩ := dirhdrCmd_whole hd hb (hend ▸ h62)
  refine ⟨u, hrun, hr, hend ▸ hpos, hcl.header ▸ hn, (dirhdrCmd_frameless_extents hn).ok rfl hrun, hraw.trans ?_, heq.trans ?_⟩
  · rw [fieldWithin_of_le (by omega), decide_fieldAt_one]
  · rw [fieldWithin_of_le (by omega), decide_fieldAt_one]

theorem prefixCmd_frameless (hr : u.readyAt .hdr) (hpos : ReadTo m b N q u) (hu : Frameless raw eq u)
    (hN : q + 20 * prefixCount u ≤ N) : ∃ v, prefixCmd.run u = .ok () v ∧ v.readyAt .prefixed ∧
      ReadTo m b N (q + 20 * prefixCount u) v ∧ Frameless raw eq v ∧ v.sizes = prefixSizes u (b + q) := by
  have hlen : (u.cursor cMain).pos.toNat + 20 * prefixCount u ≤ (u.cursor cMain).len.toNat := by rw [hpos.pos, hpos.len]; exact hN
  refine ⟨_, run_prefixCmd rfl hr hpos.err hlen, ⟨rfl, hr.2⟩, ?_, ⟨hu.fpd, hu.extents, hu.hasRaw, hu.compEq⟩, ?_⟩
  · have hadv := hpos.advance hN
    rw [Cursor.advance_ok (Cursor.blocks_eq_false.2 ⟨hpos.err, hlen⟩)] at hadv
    exact hadv.of_same ⟨rfl, rfl⟩
  · show prefixSizes u (nextBit (u.cursor cMain)) = _
    rw [nextBit, hpos.base, hpos.pos]

/-! ### PCT -/

theorem readPresence_ends {j : Nat} (h : q + 1 ≤ N) : Ends (ReadTo m b N q) (readPresence j) fun _ => ReadTo m b N (q + 1) := by
  refine readInto_ends (g := fun v s => if v = 1 then s.putCode (BitVec.ofNat 8 j) else s) h fun v s => ?_
  split <;> exact ⟨rfl, rfl⟩

/-- PCT moves cursor 0 past the 256 bits of the presence map (R190). -/
theorem pctCmd_moves (h : q + 256 ≤ N) :
    Ends (fun u => u.readyAt .prefixed ∧ ReadTo m b N q u) pctCmd fun _ => ReadTo m b N (q + 256) := by
  have hloop : ∀ n, q + n ≤ N → Ends (ReadTo m b N q) (forBelow n readPresence) fun _ => ReadTo m b N (q + n) := fun n hn =>
    Meets.forBelow (I := fun j => ReadTo m b N (q + j)) n fun j hj => readPresence_ends (by omega)
  unfold pctCmd
  generalize (256 : Nat) = n at h ⊢
  refine Meets.bind (requireStage_meets (fun _ hu hn => hn hu.1) fun _ hu _ => hu.2) fun _ => Meets.bind (hloop n h) fun _ => ?_
  exact Meets.write fun _ hu => hu.of_same ⟨rfl, rfl⟩

theorem pctCmd_frameless {z : SubSizes} (hr : u.readyAt .prefixed) (hpos : ReadTo m b N q u) (hu : Frameless raw eq u)
    (hz : u.sizes = z) (hN : q + 256 ≤ N) : ∃ v, pctCmd.run u = .ok () v ∧ v.readyAt .pct ∧ ReadTo m b N (q + 256) v ∧
      Frameless raw eq v ∧ v.sizes = z := by
  obtain ⟨_, v, hrun, hv⟩ := (pctCmd_moves hN).ends ⟨hr, hpos⟩
  have hkeeps : Keeps (fun u => Frameless raw eq u ∧ u.sizes = z) pctCmd :=
    Keeps.pctCmd (fun _ _ h => ⟨⟨h.1.fpd, h.1.extents, h.1.hasRaw, h.1.compEq⟩, h.2⟩)
      (fun _ _ h => ⟨⟨h.1.fpd, h.1.extents, h.1.hasRaw, h.1.compEq⟩, h.2⟩)
      (fun _ h => ⟨⟨h.1.fpd, h.1.extents, h.1.hasRaw, h.1.compEq⟩, h.2⟩)
  exact ⟨v, hrun, ((pctCmd_ends u).ok rfl hrun).2, hv, hkeeps.ok ⟨hu, hz⟩ hrun⟩

/-! ### SETUP and RECON -/

/-- The bits of the sub-streams whose lengths PREFIX read at bit address `p` (R201). -/
theorem lensBefore_prefixSizes {p : Nat} (hz : v.sizes = prefixSizes u p) (hraw : v.hasRaw = u.hasRaw) (heq : v.compEq = u.compEq) :
    lensBefore v 4 = (if u.compEq then fieldAt u.src p 20 else 0) + fieldAt u.src (p + 20 * u.compEq.toNat) 20 +
      (if u.hasRaw then fieldAt u.src (p + 20 * u.compEq.toNat + 20) 20 + fieldAt u.src (p + 20 * u.compEq.toNat + 40) 20 else 0) := by
  have hlen : ∀ p, (BitVec.ofNat 20 (fieldAt u.src p 20)).toNat = fieldAt u.src p 20 := fun p => by
    rw [BitVec.toNat_ofNat, Nat.mod_eq_of_lt (fieldAt_lt ..)]
  rw [lensBefore_four, eqLen, maskLen, rawuLen, rawcLen, hz, hraw, heq, prefixSizes, hlen]
  cases u.compEq <;> cases u.hasRaw <;> simp [hlen, Nat.add_assoc]

/-- The grid of zero extents is empty (R203). -/
theorem sizeGrid_of_zero (h : u.extents = ⟨0, 0, 0, 0⟩) : u.sizeGrid = { u with gw := 0, gh := 0 } := by
  rw [State.sizeGrid, h]
  rfl

theorem cells_sizeGrid_of_zero (h : u.extents = ⟨0, 0, 0, 0⟩) : u.sizeGrid.cells = 0 := by
  rw [sizeGrid_of_zero h]
  rfl

theorem setupCmd_frameless (hr : u.readyAt .pct) (hpos : ReadTo m b N q u) (hu : Frameless raw eq u)
    (hN : q + lensBefore u 4 ≤ N) : ∃ v, setupCmd.run u = .ok () v ∧ v.readyAt .setup ∧ Frameless raw eq v ∧
      v.gw = 0 ∧ v.gh = 0 ∧ v.logCount = 0 ∧ v.mapCount = 0 := by
  have hcells : u.sizeGrid.cells ≤ u.params.maxCells := cells_sizeGrid_of_zero hu.extents ▸ Nat.zero_le _
  have hfit : SubStreamsFit u (u.cursor cMain) 4 := .inr ⟨hpos.err, by rw [hpos.pos, hpos.len]; exact hN⟩
  obtain ⟨w, hw, hrun⟩ := run_setupCmd_fit rfl hr hfit hcells
  rw [hw.sizeGrid_carveRest, hu.extents] at hrun
  exact ⟨_, hrun, ⟨rfl, hr.2⟩, ⟨hu.fpd, rfl, hu.hasRaw, hu.compEq⟩, rfl, rfl, rfl, rfl⟩

/-- RECON of no frames has no cell step (R207). -/
theorem reconCmd_frameless (hr : u.readyAt .setup) (hn : u.header.fpd = 0) :
    reconCmd.run u = .ok () { u with stage := .done } := by
  refine (run_raiseWhen_pass (by rw [stageReady_iff.2 hr]; rfl)).trans ?_
  rw [run_withState_bind, hn]
  rfl

/-- Settles O51: the five stages, one after the other. -/
theorem decodeFramelessDirection : Obligations.DecodeFramelessDirection := by
  rintro s a l b q raw eq hd hb hn rfl rfl rfl rfl hlen
  obtain ⟨u, hu, hur, hup, huf⟩ := dirhdrCmd_frameless hd hb (BitVec.eq_of_toNat_eq hn) (by omega)
  have hcount : prefixCount u = (srcBit s.src (8 * a + 33)).toNat + 1 + 2 * (srcBit s.src (8 * a + 32)).toNat := by
    rw [prefixCount, huf.hasRaw, huf.compEq]
  obtain ⟨v, hv, hvr, hvp, hvf, hvz⟩ := prefixCmd_frameless hur hup huf (by omega)
  obtain ⟨w, hw, hwr, hwp, hwf, hwz⟩ := pctCmd_frameless hvr hvp hvf hvz (by omega)
  have hlens := lensBefore_prefixSizes hwz (hwf.hasRaw.trans huf.hasRaw.symm) (hwf.compEq.trans huf.compEq.symm)
  rw [huf.hasRaw, huf.compEq, hup.src] at hlens
  obtain ⟨x, hx, hxr, hxf, hgw, hgh, hlog, hmap⟩ := setupCmd_frameless hwr hwp hwf (by omega)
  have hrun : decodeCmd.run s = .ok () { x with stage := .done } :=
    (run_bind_ok hu).trans <| (run_bind_ok hv).trans <| (run_bind_ok hw).trans <| (run_bind_ok hx).trans <|
      reconCmd_frameless hxr hxf.fpd
  exact ⟨_, complete_ok hrun, rfl, rfl, hxr.2, by simp [State.outputValid, hxr.2], hxf.extents, hgw, hgh, hlog, hmap,
    hxf.hasRaw, hxf.compEq⟩

end Sys2Proof.Machine

/-! PROOF of O20 and O21 (R118, R122): SIZE by its equation in the laws; the round trip by the bits of a field, which determine it. -/
namespace Sys2Proof.Machine

open Sys2Proof.Claims

/-- Settles O20: SIZE checks nothing. -/
theorem sizeReturnsWholeLength : Obligations.SizeReturnsWholeLength := fun s c => exec_size c s

/-- A field is the number whose low bits the stream has in its place, least significant first (R64). -/
theorem fieldAt_eq_mod {m : Memory} {b w v : Nat} (h : ∀ j, j < w → srcBit m (b + j) = v.testBit j) :
    fieldAt m b w = v % 2 ^ w := by
  refine Nat.eq_of_testBit_eq fun j => ?_
  rw [testBit_fieldAt, Nat.testBit_mod_two_pow]
  by_cases hj : j < w
  · rw [h j hj]
  · simp [hj]

/-- The bit vector of a field whose bits are those of `x` is `x` (R64). -/
theorem ofNat_fieldAt_eq {m : Memory} {b w : Nat} {x : BitVec w} (h : ∀ j, j < w → srcBit m (b + j) = x.getLsbD j) :
    BitVec.ofNat w (fieldAt m b w) = x := by
  rw [fieldAt_eq_mod (v := x.toNat) h, Nat.mod_eq_of_lt x.isLt, BitVec.ofNat_toNat, BitVec.setWidth_eq]

/-- An integer in the range of `w` bits is what sign extension makes of its low `w` bits (R9, R122). -/
theorem signExtend_ofInt {w n : Nat} {v : Int} (hw : 1 ≤ w) (hlo : -2 ^ (w - 1) ≤ v) (hhi : v < 2 ^ (w - 1)) :
    (BitVec.ofInt w v).signExtend n = BitVec.ofInt n v := by
  rw [BitVec.signExtend, BitVec.toInt_ofInt_eq_self hw hlo hhi]

/-- Settles O21: a read that the cursor does not refuse gives the field (R114, R115), and the field is the number encoded there. -/
theorem fieldRoundTrip : Obligations.FieldRoundTrip := by
  intro s c k hk herr
  constructor
  · intro p hp v hlen hbits
    exact ⟨_, unsignedReadsComplete s c k hk p hp herr hlen, rfl, congrArg (BitVec.ofNat 64) (fieldAt_eq_mod hbits)⟩
  · intro p hp v hlen hbits
    have hres := congrArg (BitVec.signExtend 64) (ofNat_fieldAt_eq hbits)
    exact ⟨_, signedReadsComplete s c k hk p hp herr hlen, rfl, hres,
      fun hw hlo hhi => hres.trans (signExtend_ofInt hw hlo hhi)⟩

end Sys2Proof.Machine

/-! PROOF of O25, O26, O27 and O28 (R140 to R145, R254): how OPEN ends when the stream is missing, too short, malformed or has an
unordered offset table, by one equation per way; and its frame, by a property that its writes keep. -/
namespace Sys2Proof.Machine

open Sys2Proof.Claims

/-! ### The frame -/

/-- The fields OPEN leaves (R140). -/
def OpensFrom (s u : State) : Prop :=
  u = { s with header := u.header, offt := u.offt, stage := u.stage, failed := u.failed, err := u.err }

theorem openCmd_keeps_frame {s : State} : Keeps (OpensFrom s) openCmd :=
  Keeps.openCmd (fun _ h => congrArg State.release h)
    (fun _ k h => congrArg (fun u : State => ({ u with header := k } : State)) h)
    (fun _ i v h => congrArg (State.setOffset · i v) h)
    fun _ h => congrArg (fun u : State => ({ u with stage := .opened } : State)) h

/-- Settles O28: every write of OPEN, and of the end of a command, is to a listed field. -/
theorem openFrame : Obligations.OpenFrame := fun _ _ ht =>
  openCmd_keeps_frame.complete (fun _ e h => congrArg (takeError .stage e) h) (fun _ h => congrArg succeed h)
    (show _ = _ from rfl) ht

/-! ### Ways to raise -/

/-- A command that cannot end raises. -/
theorem Meets.raises {α : Type} {P : State → Prop} {x : Cmd α} {E : ErrorKind → State → Prop} {s : State}
    (h : Meets P x (fun _ _ => False) E) (hs : P s) : ∃ e t, x.run s = .error e t ∧ E e t := by
  have hx := h s hs
  revert hx
  cases x.run s with
  | ok a t => exact False.elim
  | error e t => exact fun he => ⟨e, t, rfl, he⟩

variable {s t : State} {h : FileHeader} {a n : Nat}

theorem run_need_raise {y : Unit → Cmd Unit} (hlen : s.srcLen.toNat < a + n) :
    (need a n >>= y).run s = .error .truncatedStream s :=
  run_raiseWhen_raise (decide_eq_true hlen)

/-! ### The start of OPEN, whatever follows -/

theorem openCmd_unavailable (hv : s.srcValid = false) : openCmd.run s = .error .sourceUnavailable s.release :=
  (run_write_bind ..).trans (run_raiseWhen_raise (by simpa using hv))

theorem run_release {y : Unit → Cmd Unit} (hv : s.srcValid = true) :
    (write State.release >>= fun _ => raiseWhen (fun s => !s.srcValid) .sourceUnavailable >>= y).run s =
      (y ()).run (s.parsing s.header) :=
  (run_write_bind ..).trans (run_raiseWhen_pass (by simpa using hv))

theorem openCmd_short_signature (hv : s.srcValid = true) (hlen : s.srcLen.toNat < 4) :
    openCmd.run s = .error .truncatedStream (s.parsing s.header) :=
  (run_release hv).trans (run_need_raise hlen)

/-- A header register whose bytes the stream has. -/
theorem run_field {g : Memory → FileHeader → FileHeader} {y : Unit → Cmd Unit} (hlen : a + n ≤ s.srcLen.toNat) :
    (need a n >>= fun _ => putHeader g >>= y).run (s.parsing h) = (y ()).run (s.parsing (g s.src h)) :=
  run_need_parsing hlen

/-! ### Malformed headers (R142, R143) -/

theorem openCmd_wrong_signature (hv : s.srcValid = true) (hlen : 4 ≤ s.srcLen.toNat)
    (hsig : signatureMatches s.params.signature s.src = false) :
    openCmd.run s = .error .malformedHeader (s.parsing { s.header with sig := BitVec.ofNat 32 (memRead s.src 0 4) }) := by
  unfold openCmd
  rw [run_release hv, run_field hlen, run_raiseWhen_raise]
  simpa [State.parsing] using hsig

/-- The reserved field is 0 exactly when its three bytes are (R143). -/
theorem reserved_eq_zero_iff {m : Memory} :
    BitVec.ofNat 24 (memRead m 7 3) = 0 ↔ Memory.byte m 7 = 0 ∧ Memory.byte m 8 = 0 ∧ Memory.byte m 9 = 0 := by
  constructor
  · intro hr
    have hz := congrArg BitVec.toNat hr
    simp only [memRead, BitVec.toNat_ofNat, Nat.reduceAdd] at hz
    bv_omega
  · rintro ⟨h7, h8, h9⟩
    rw [memRead_reserved h7 h8 h9]
    rfl

theorem openCmd_reserved (hv : s.srcValid = true) (hlen : 10 ≤ s.srcLen.toNat)
    (hsig : signatureMatches s.params.signature s.src = true) (hrsv : BitVec.ofNat 24 (memRead s.src 7 3) ≠ 0) :
    openCmd.run s = .error .malformedHeader (s.parsing { s.header with
      sig := BitVec.ofNat 32 (memRead s.src 0 4)
      ver := Memory.byte s.src 4
      dirCnt := Memory.byte s.src 5
      fpd := Memory.byte s.src 6
      rsv := BitVec.ofNat 24 (memRead s.src 7 3) }) := by
  unfold openCmd
  rw [run_release hv, run_field (by omega), run_raiseWhen_pass (by simpa [State.parsing] using hsig), run_field (by omega),
    run_field (by omega), run_field (by omega), run_field hlen, run_raiseWhen_raise (decide_eq_true hrsv)]

/-- Settles O25: each check raises in the state that the registers before it are written in. -/
theorem openRejectsMalformedHeader : Obligations.OpenRejectsMalformedHeader := by
  refine fun s hv => ⟨fun hlen hsig => complete_error (openCmd_wrong_signature hv hlen hsig), fun hlen hsig hbytes => ?_⟩
  refine complete_error (openCmd_reserved hv hlen hsig fun hr => ?_)
  obtain ⟨h7, h8, h9⟩ := reserved_eq_zero_iff.1 hr
  simp [h7, h8, h9] at hbytes

/-! ### A stream that ends too early (R141, R254) -/

/-- The command runs out of bytes of `s` while only header registers are written, the header being `h` before it. -/
def RunsOut (s : State) (h : FileHeader) (x : Cmd Unit) : Prop :=
  ∃ k, x.run (s.parsing h) = .error .truncatedStream (s.parsing k)

/-- The bytes of a header register are missing, or those after it. -/
theorem RunsOut.field {g : Memory → FileHeader → FileHeader} {y : Unit → Cmd Unit}
    (hy : a + n ≤ s.srcLen.toNat → RunsOut s (g s.src h) (y ())) :
    RunsOut s h (need a n >>= fun _ => putHeader g >>= y) := by
  rcases Nat.lt_or_ge s.srcLen.toNat (a + n) with hlen | hlen
  · exact ⟨h, run_need_raise hlen⟩
  · obtain ⟨k, hk⟩ := hy hlen
    exact ⟨k, (run_field hlen).trans hk⟩

theorem RunsOut.check {p : State → Bool} {e : ErrorKind} {y : Unit → Cmd Unit} (hp : p (s.parsing h) = false)
    (hy : RunsOut s h (y ())) : RunsOut s h (raiseWhen p e >>= y) := by
  obtain ⟨k, hk⟩ := hy
  exact ⟨k, (run_raiseWhen_pass hp).trans hk⟩

theorem openCmd_short_header (hv : s.srcValid = true) (hsig : signatureMatches s.params.signature s.src = true)
    (hrsv : 10 ≤ s.srcLen.toNat → BitVec.ofNat 24 (memRead s.src 7 3) = 0) (hlen : s.srcLen.toNat < 18) :
    ∃ k, openCmd.run s = .error .truncatedStream (s.parsing k) := by
  unfold openCmd
  rw [run_release hv]
  refine RunsOut.field fun _ => RunsOut.check (by simpa [State.parsing] using hsig) ?_
  refine RunsOut.field fun _ => RunsOut.field fun _ => RunsOut.field fun _ => RunsOut.field fun h10 => ?_
  refine RunsOut.check (decide_eq_false (not_not.2 (hrsv h10))) ?_
  exact RunsOut.field fun _ => RunsOut.field fun h18 => absurd hlen (Nat.not_lt.2 h18)

/-- `t` is `s` but for the offset table (R144). -/
def SameButOffsets (s t : State) : Prop := t = { s with offt := t.offt }

theorem SameButOffsets.srcLen (ht : SameButOffsets s t) : t.srcLen = s.srcLen := by rw [ht]

theorem SameButOffsets.stage (ht : SameButOffsets s t) : t.stage = s.stage := by rw [ht]

theorem SameButOffsets.header (ht : SameButOffsets s t) : t.header = s.header := by rw [ht]

/-- Reading the offsets raises, with nothing but offsets written, when the stream does not hold them all (R144). -/
theorem run_readOffsets_short (h18 : 18 ≤ s.srcLen.toNat) (hlen : s.srcLen.toNat < 18 + 4 * n) :
    ∃ t, (forBelow n readOffset).run s = .error .truncatedStream t ∧ SameButOffsets s t := by
  have hloop := Meets.forBelow (I := fun j t => SameButOffsets s t ∧ 18 + 4 * j ≤ s.srcLen.toNat) (body := readOffset)
    (E := fun e t => e = .truncatedStream ∧ SameButOffsets s t) n fun j _ => ?_
  · obtain ⟨_, t, hrun, rfl, ht⟩ := (hloop.weaken (P' := fun t => t = s) (by rintro _ rfl; exact ⟨rfl, h18⟩)
      (fun _ _ hj => Nat.not_lt.2 hj.2 hlen) fun _ _ ht => ht).raises rfl
    exact ⟨t, hrun, ht⟩
  · refine Meets.bind (Q := fun _ t => SameButOffsets s t ∧ 18 + 4 * (j + 1) ≤ s.srcLen.toNat)
      (Meets.raiseWhen (fun t ht hneed => ⟨ht.1, ?_⟩) fun _ ht _ => ⟨rfl, ht.1⟩) fun _ =>
      Meets.write fun t ht => ⟨congrArg (State.setOffset · j (fileOffset t.src j)) ht.1, ht.2⟩
    have hge := of_decide_eq_false hneed
    rw [ht.1.srcLen] at hge
    omega

theorem openTable_short (hn : s.header.dirCnt.toNat = n) (h18 : 18 ≤ s.srcLen.toNat) (hlen : s.srcLen.toNat < 18 + 4 * n) :
    ∃ t, openTable.run s = .error .truncatedStream t ∧ SameButOffsets s t := by
  obtain ⟨t, hrun, ht⟩ := run_readOffsets_short h18 hlen
  refine ⟨t, ?_, ht⟩
  unfold openTable
  rw [run_withState_bind, hn, run_bind_error hrun]

theorem headerLegal_iff : headerLegal s ↔ signatureMatches s.params.signature s.src = true ∧
    Memory.byte s.src 7 = 0 ∧ Memory.byte s.src 8 = 0 ∧ Memory.byte s.src 9 = 0 := by
  simp [headerLegal, signatureMatches, and_assoc]

/-- A stream with the signature that ends inside the header or the table: OPEN raises with the file still released (R141). -/
theorem openCmd_short (hv : s.srcValid = true) (hsig : signatureMatches s.params.signature s.src = true)
    (hbytes : 10 ≤ s.srcLen.toNat → Memory.byte s.src 7 = 0 ∧ Memory.byte s.src 8 = 0 ∧ Memory.byte s.src 9 = 0)
    (hlen : s.srcLen.toNat < 18 + 4 * (Memory.byte s.src 5).toNat) :
    ∃ t, openCmd.run s = .error .truncatedStream t ∧ t.stage = .idle := by
  rcases Nat.lt_or_ge s.srcLen.toNat 18 with h18 | h18
  · obtain ⟨k, hk⟩ := openCmd_short_header hv hsig (fun h10 => reserved_eq_zero_iff.2 (hbytes h10)) h18
    exact ⟨_, hk, rfl⟩
  · have hl := headerLegal_iff.2 ⟨hsig, hbytes (by omega)⟩
    obtain ⟨t, hrun, ht⟩ := openTable_short (s := s.parsing (fileHeaderOf s.src)) rfl h18 hlen
    exact ⟨t, (openCmd_header hv hl h18).trans hrun, ht.stage⟩

/-- Settles O27: no source, no signature, and no whole header and table. -/
theorem openReportsMissingBytes : Obligations.OpenReportsMissingBytes := by
  refine fun s => ⟨fun hv => complete_error (openCmd_unavailable hv),
    fun hv hlen => complete_error (openCmd_short_signature hv hlen), fun hv _ hsig hbytes hlen => ?_⟩
  obtain ⟨t, hrun, hstage⟩ := openCmd_short hv hsig hbytes hlen
  exact ⟨_, complete_error hrun, rfl, hstage, Bool.or_true _⟩

/-! ### An unordered offset table (R145) -/

theorem run_checkOffsets_raise {i : Nat} (hi : i < n) (hle : (t.offset (i + 1)).toNat ≤ (t.offset i).toNat) :
    (forBelow n checkOffset).run t = .error .invalidOffsetTable t := by
  have hchecks := checkOffsets_meets (s := t) (E := fun e u => e = .invalidOffsetTable ∧ u = t) ⟨rfl, rfl⟩ n
  obtain ⟨_, _, hrun, rfl, rfl⟩ := (hchecks.weaken (fun _ ht => ht)
    (fun _ _ hord => Nat.not_lt.2 hle (hord.2 i hi)) fun _ _ he => he).raises rfl
  exact hrun

/-- A stream that holds the whole table: it is read, then checked (R144, R145). -/
theorem openTable_reads (hn : s.header.dirCnt.toNat = n) (hlen : 18 + 4 * n ≤ s.srcLen.toNat) :
    ∃ t, TableRead s n t ∧ openTable.run s =
      (forBelow n checkOffset >>= fun _ => write fun s => { s with stage := .opened }).run t := by
  obtain ⟨_, u, hrun, hu⟩ := (readOffsets_meets hlen).ends rfl
  have hcnt : u.header.dirCnt.toNat = n := by rw [hu.1]; exact hn
  have hl : u.srcLen = s.srcLen := by rw [hu.1]
  refine ⟨u.setOffset n s.srcLen, hu.table, ?_⟩
  unfold openTable
  rw [run_withState_bind, hn, run_bind_ok hrun, run_write_bind, hcnt, hl, run_withState_bind, State.setOffset_header, hcnt]

theorem openTable_unordered {i : Nat} (hn : s.header.dirCnt.toNat = n) (hlen : 18 + 4 * n ≤ s.srcLen.toNat) (hi : i < n)
    (hle : fileOffsets s.src s.srcLen.toNat n (i + 1) ≤ fileOffsets s.src s.srcLen.toNat n i) :
    ∃ t, openTable.run s = .error .invalidOffsetTable t ∧ SameButOffsets s t := by
  obtain ⟨t, ⟨hframe, htable, -⟩, hrun⟩ := openTable_reads hn hlen
  rw [← htable i (Nat.le_of_lt hi), ← htable (i + 1) hi] at hle
  exact ⟨t, hrun.trans (run_bind_error (run_checkOffsets_raise hi hle)), hframe⟩

/-- Settles O26: the header, then the table, whose check raises. -/
theorem openRejectsUnorderedOffsets : Obligations.OpenRejectsUnorderedOffsets := by
  intro s n i hn hv hl hlen hi hle
  obtain ⟨t, hrun, ht⟩ := openTable_unordered (s := s.parsing (fileHeaderOf s.src)) hn hlen hi hle
  refine ⟨_, complete_error ((openCmd_header hv hl (by omega)).trans hrun), rfl, ht.stage, Bool.or_true _, ht.header⟩

end Sys2Proof.Machine

/-! PROOF of O31 (R70, R160, R169, R253, R256): DIRHDR raises only where a move of cursor 0 is refused, which leaves cursor 0 in
error; and if it ends, cursor 0 has moved past all of the headers and optional data, so the direction holds them. -/
namespace Sys2Proof.Machine

open Sys2Proof.Claims

variable {m : Memory} {b q w N n f : Nat} {s : State}

/-! ### What it raises -/

/-- The error is TruncatedStream, with cursor 0 in error (R70). -/
def CutShort (e : ErrorKind) (u : State) : Prop := e = .truncatedStream ∧ (u.cursor cMain).err = true

/-- The command raises no other error. -/
abbrev OnlyCutShort (x : Cmd Unit) : Prop := Meets (fun _ => True) x (fun _ _ => True) CutShort

theorem failIfErr_onlyCutShort : OnlyCutShort (failIfErr cMain) :=
  Meets.raiseWhen (fun _ _ _ => trivial) fun _ _ herr => ⟨rfl, herr⟩

theorem readInto_onlyCutShort {g : Nat → State → State} : OnlyCutShort (readInto w g) := by
  refine Meets.bind (Q := fun _ _ => True) (fun s _ => ?_) fun _ => Meets.write fun _ _ => trivial
  rcases readOrFail_cases cMain w s with ⟨-, hrun⟩ | ⟨-, hrun⟩
  · rw [hrun]
    trivial
  · rw [hrun]
    exact ⟨rfl, by rw [State.cursor_setCursor_self]⟩

theorem readDirectionHeader_onlyCutShort : OnlyCutShort readDirectionHeader := by
  unfold readDirectionHeader
  iterate 9 refine Meets.andThen readInto_onlyCutShort fun _ => ?_
  exact readInto_onlyCutShort

theorem readFrameHeader_onlyCutShort : OnlyCutShort (readFrameHeader f) := by
  refine withState_meets fun s _ => ?_
  iterate 8 refine Meets.andThen readInto_onlyCutShort fun _ => ?_
  exact Meets.write fun _ _ => trivial

theorem skipOptional_onlyCutShort : OnlyCutShort (skipOptional f) := by
  refine withState_meets fun s _ => ?_
  split
  · exact Meets.pure fun _ _ => trivial
  · exact Meets.andThen (Meets.write fun _ _ => trivial) fun _ => Meets.andThen (Meets.write fun _ _ => trivial) fun _ =>
      failIfErr_onlyCutShort

theorem readDirection_onlyCutShort : OnlyCutShort readDirection := by
  have hloop : ∀ body : Nat → Cmd Unit, (∀ f, OnlyCutShort (body f)) →
      OnlyCutShort (withState fun s => forBelow s.header.fpd.toNat body) := fun body hbody =>
    withState_meets fun _ _ => Meets.forBelow (I := fun _ _ => True) _ fun f _ => hbody f
  refine Meets.andThen readDirectionHeader_onlyCutShort fun _ => ?_
  refine Meets.andThen (hloop _ fun _ => readFrameHeader_onlyCutShort) fun _ => ?_
  refine Meets.andThen (hloop _ fun _ => skipOptional_onlyCutShort) fun _ => ?_
  exact Meets.andThen (Meets.write fun _ _ => trivial) fun _ => Meets.write fun _ _ => trivial

/-! ### Where it ends -/

/-- Two rules of one command together. -/
theorem Meets.and {P P' Q Q' : State → Prop} {E E' : ErrorKind → State → Prop} {x : Cmd Unit}
    (h : Meets P x (fun _ => Q) E) (h' : Meets P' x (fun _ => Q') E') :
    Meets (fun s => P s ∧ P' s) x (fun _ s => Q s ∧ Q' s) fun e s => E e s ∧ E' e s := by
  rintro s ⟨hs, hs'⟩
  have hx := h s hs
  have hx' := h' s hs'
  revert hx hx'
  cases x.run s with
  | ok a t => exact fun ht ht' => ⟨ht, ht'⟩
  | error e t => exact fun he he' => ⟨he, he'⟩

/-- What a command meets when it ends, whatever it raises. -/
abbrev IfEnds (P : State → Prop) (x : Cmd Unit) (Q : State → Prop) : Prop := Meets P x (fun _ => Q) fun _ _ => True

/-- Cursor 0 is at position `q`, or in error. -/
def AtOrBlocked (m : Memory) (b N q : Nat) (s : State) : Prop := ReadTo m b N q s ∨ (s.cursor cMain).err = true

theorem AtOrBlocked.advance (h : AtOrBlocked m b N q s) :
    AtOrBlocked m b N (q + w) (s.setCursor cMain ((s.cursor cMain).advance w)) := by
  rcases h with h | herr
  · rcases Nat.lt_or_ge N (q + w) with hlt | hle
    · right
      rw [State.cursor_setCursor_self, Cursor.advance_err, h.blocks]
      exact decide_eq_true hlt
    · exact .inl (h.advance hle)
  · right
    rw [State.cursor_setCursor_self, Cursor.advance_err]
    exact Cursor.blocks_eq_true.2 (.inl herr)

theorem skipBlock_ifEnds {l : Nat} :
    IfEnds (ReadTo m b N q) (skipBlock l) (ReadTo m b N (8 * ((q + 7) / 8) + 8 * l)) := by
  refine Meets.bind (Q := fun _ => AtOrBlocked m b N (8 * ((q + 7) / 8))) (Meets.write fun s hs => ?_) fun _ => ?_
  · have hal := (s.cursor cMain).pos_add_toAlign
    rw [hs.pos] at hal
    rw [← hal]
    exact AtOrBlocked.advance (.inl hs)
  · refine Meets.bind (Q := fun _ => AtOrBlocked m b N (8 * ((q + 7) / 8) + 8 * l)) (Meets.write fun _ hs => hs.advance) fun _ => ?_
    exact Meets.raiseWhen (fun _ hs hok => hs.resolve_right (Bool.eq_false_iff.1 hok)) fun _ _ _ => trivial

/-- SkipOptional, from the number of bytes its frame has (R167). -/
theorem run_skipOptional {g : Nat → Nat} (hs : OptionalSizes n g s) (hf : f < n) :
    (skipOptional f).run s = (if g f = 0 then pure () else skipBlock (g f) : Cmd Unit).run s := by
  have hsize := hs.2 f hf
  have hzero : (s.frame f).optb = 0 ↔ g f = 0 := by rw [← hsize, ← BitVec.toNat_inj]; rfl
  rw [skipOptional, run_withState, hsize]
  by_cases hz : g f = 0
  · rw [if_pos (hzero.2 hz), if_pos hz]
  · rw [if_neg (mt hzero.1 hz), if_neg hz]

theorem skipOptional_ifEnds {g : Nat → Nat} {p : Nat} (hf : f < n) :
    IfEnds (fun u => OptionalSizes n g u ∧ ReadTo m b N (optionalEnd g p f) u) (skipOptional f)
      fun u => OptionalSizes n g u ∧ ReadTo m b N (optionalEnd g p (f + 1)) u := by
  rintro s ⟨hs, hpos⟩
  rw [run_skipOptional hs hf, optionalEnd]
  by_cases hz : g f = 0
  · rw [if_pos hz, if_pos hz]
    exact ⟨hs, hpos⟩
  · rw [if_neg hz, if_neg hz]
    exact ((skipBlock_keeps fun _ _ ht => ht).and skipBlock_ifEnds).weaken (fun _ h => h) (fun _ _ h => h) (fun _ _ _ => trivial)
      s ⟨hs, hpos⟩

/-- Cursor 0 at a frame's start by the selectors read is there by those of the stream: the direction holds them all (R97). -/
theorem AtFrame.of_read (h : FramesReadTo m b N n (selectorsWithin m b N) f (frameStart (selectorsWithin m b N) f) s)
    (hpos : ReadTo m b N (frameStart (selectorsWithin m b N) f) s) : AtFrame m b N n f s :=
  ⟨⟨h, hpos.le, fun _ => hpos⟩, selectorsWithin_of_le (m := m) (b := b) (Nat.le_trans (Nat.le_add_right ..) hpos.le) ▸ hpos⟩

theorem readDirectionHeader_ifEnds :
    IfEnds (fun u => ReadTo m b N 0 u ∧ HeaderReadTo m b n 0 u) readDirectionHeader (AtFrame m b N n 0) := by
  refine readDirectionHeader_at.weaken (fun _ h => h) (fun _ u ⟨hpos, h⟩ => ⟨h.framesReadBelow hpos, ?_⟩) fun _ _ _ => trivial
  rwa [frameStart, Nat.zero_mul]

theorem readFrameHeader_ifEnds (hf : f < n) : IfEnds (AtFrame m b N n f) (readFrameHeader f) (AtFrame m b N n (f + 1)) :=
  readFrameHeader_at.weaken (fun _ ⟨⟨hframes, _, hpos⟩, _⟩ => ⟨hpos hf, hframes⟩)
    (fun _ _ ⟨hpos, hframes⟩ => .of_read hframes hpos) fun _ _ _ => trivial

theorem AtFrame.frameCount (h : AtFrame m b N n f s) : s.header.fpd.toNat = n :=
  have ⟨⟨⟨hn, _⟩, _⟩, _⟩ := h
  hn

theorem AtFrame.optionalSizes (h : AtFrame m b N n n s) : OptionalSizes n (optionalBytes m b) s :=
  h.1.directionWithin.optionalSizes h.frameCount h.2.le

theorem readDirection_ifEnds : IfEnds (fun u => ReadTo m b N 0 u ∧ HeaderReadTo m b n 0 u) readDirection
    (ReadTo m b N (headersEnd m b n)) := by
  have hframes : IfEnds (AtFrame m b N n 0) (withState fun s => forBelow s.header.fpd.toNat readFrameHeader)
      (AtFrame m b N n n) := withState_meets fun s hs => by
    rw [hs.frameCount]
    exact Meets.forBelow n fun f hf => readFrameHeader_ifEnds hf
  have hskips : IfEnds (AtFrame m b N n n) (withState fun s => forBelow s.header.fpd.toNat skipOptional)
      (ReadTo m b N (headersEnd m b n)) := withState_meets fun s hs => by
    rw [hs.frameCount]
    have hloop := Meets.forBelow (I := fun f u => OptionalSizes n (optionalBytes m b) u ∧
      ReadTo m b N (optionalEnd (optionalBytes m b) (frameStart (selectorsAt m b) n) f) u) n fun f hf => skipOptional_ifEnds hf
    exact hloop.weaken (fun u hu => ⟨hu.optionalSizes, hu.2⟩) (fun _ _ hu => hu.2) fun _ _ h => h
  refine Meets.bind readDirectionHeader_ifEnds fun _ => Meets.bind hframes fun _ => Meets.bind hskips fun _ => ?_
  exact Meets.andThen (Meets.write fun _ h => h.of_same ⟨rfl, rfl⟩) fun _ => Meets.write fun _ h => h.of_same ⟨rfl, rfl⟩

/-! ### DIRHDR -/

/-- A direction too short for its headers and optional data: it cannot end. -/
theorem dirhdrCmd_cutShort {a l : Nat} (hd : directionSelected s) (hb : directionBytes s a l)
    (hN : 8 * l < headersEnd s.src (8 * a) s.header.fpd.toNat) : ∃ e u, dirhdrCmd.run s = .error e u ∧ CutShort e u := by
  rw [run_dirhdrCmd hd]
  exact ((readDirection_ifEnds.and readDirection_onlyCutShort).weaken (fun _ h => ⟨h, trivial⟩)
    (fun _ _ h => Nat.not_lt.2 h.1.le hN) fun _ _ h => h.2).raises (beginDirection_readTo hb)

/-- Settles O31: the error, and the stage a data error of DIRHDR leaves. -/
theorem dirhdrReportsTruncation : Obligations.DirhdrReportsTruncation := by
  intro s a l hd hb hN
  obtain ⟨_, u, hrun, rfl, herr⟩ := dirhdrCmd_cutShort hd hb hN
  rcases (dirhdrCmd_ends s).err rfl hrun with ⟨-, -, hstage⟩ | ⟨hdata, -⟩
  · exact ⟨_, complete_error hrun, rfl, List.mem_singleton.1 hstage, Bool.or_true _, herr⟩
  · cases hdata

end Sys2Proof.Machine

/-! PROOF of O32 (R166, R168): DIRHDR ends with the extents of every frame computed and their union stored. -/
namespace Sys2Proof.Machine

open Sys2Proof.Claims

variable {s t u : State}

/-! ### The sides of the union -/

/-- The least of the frames' numbers is some frame's (R168). -/
theorem exists_eq_ofInt_minOver (g : Nat → DWord) {n : Nat} (hn : 1 ≤ n) :
    ∃ f, f < n ∧ BitVec.ofInt 64 (minOver (fun f => (g f).toInt) (n - 1)) = g f := by
  obtain ⟨f, hf, he⟩ := exists_minOver (fun f => (g f).toInt) (n - 1)
  exact ⟨f, Nat.lt_of_le_pred hn hf, by rw [he, BitVec.ofInt_toInt]⟩

/-- The greatest of the frames' numbers is some frame's (R168). -/
theorem exists_eq_ofInt_maxOver (g : Nat → DWord) {n : Nat} (hn : 1 ≤ n) :
    ∃ f, f < n ∧ BitVec.ofInt 64 (maxOver (fun f => (g f).toInt) (n - 1)) = g f := by
  obtain ⟨f, hf, he⟩ := exists_maxOver (fun f => (g f).toInt) (n - 1)
  exact ⟨f, Nat.lt_of_le_pred hn hf, by rw [he, BitVec.ofInt_toInt]⟩

theorem unionExtents_attained (hn : 1 ≤ s.header.fpd.toNat) :
    (∃ f, f < s.header.fpd.toNat ∧ s.unionExtents.xmin = (s.frame f).fxmin) ∧
    (∃ f, f < s.header.fpd.toNat ∧ s.unionExtents.xmax = (s.frame f).fxmax) ∧
    (∃ f, f < s.header.fpd.toNat ∧ s.unionExtents.ymin = (s.frame f).fymin) ∧
    (∃ f, f < s.header.fpd.toNat ∧ s.unionExtents.ymax = (s.frame f).fymax) := by
  rw [State.unionExtents, if_neg fun hz => by simp [hz] at hn]
  exact ⟨exists_eq_ofInt_minOver _ hn, exists_eq_ofInt_maxOver _ hn, exists_eq_ofInt_minOver _ hn, exists_eq_ofInt_maxOver _ hn⟩

/-! ### DIRHDR -/

/-- Every frame has its extents, and the direction extents are their union, or 0 without frames (R166, R168). -/
def ExtentsUnited (u : State) : Prop :=
  FramesFinished u.header.fpd.toNat u ∧ (u.header.fpd ≠ 0 → u.extents = u.unionExtents) ∧
    (u.header.fpd = 0 → u.extents = ⟨0, 0, 0, 0⟩)

/-- The last writes of DIRHDR, when all frames are read (R160). -/
theorem ReadingFrame.united {n : Nat} (h : ReadingFrame n n u) :
    ExtentsUnited { u with extents := u.unionExtents, stage := .hdr } := by
  obtain ⟨-, rfl, h0, hf⟩ := h
  refine ⟨hf, fun (hpos : u.header.fpd ≠ 0) => ?_, fun (hz : u.header.fpd = 0) => ?_⟩
  · simp only [State.unionExtents, if_neg hpos]
    rfl
  · exact (unionExtents_frameless hz).trans h0

theorem dirhdrCmd_unites : Meets (fun u => u = s) dirhdrCmd (fun _ => ExtentsUnited) fun _ _ => True := by
  have hreads : ∀ f, HeaderReadsKeep (ReadingFrame s.header.fpd.toNat f) := fun f =>
    ⟨fun _ _ h => h, fun _ _ h => h, fun _ _ h => h, fun _ _ h => h, fun _ _ h => h⟩
  refine dirhdrCmd_meets (A := ReadingFrame s.header.fpd.toNat 0) (I := ReadingFrame s.header.fpd.toNat)
    (n := s.header.fpd.toNat) (fun _ _ _ => trivial) (fun _ _ _ _ => trivial) ?_
    (readDirectionHeader_meets (hreads 0) fun _ _ => trivial) (fun _ _ h => h.2.1) (fun f _ => ?_)
    (fun _ => skipOptional_meets (hreads _).moved fun _ _ => trivial) fun _ h => h.united
  · rintro _ rfl -
    exact ⟨rfl, rfl, rfl, fun f hf => absurd hf (Nat.not_lt_zero f)⟩
  · exact readFrameHeader_meets (hreads f).moved (fun _ v ⟨hs, hn, he, hf⟩ => ⟨hs, hn, he, hf.setFrame v⟩) (fun _ _ => trivial)
      fun _ ⟨hs, hn, he, hf⟩ => ⟨hs, hn, he, hf.finish⟩

theorem exec_dirhdr_unites (ht : exec .dirhdr s = .next t) (herr : t.err = none) : ExtentsUnited t := by
  rcases Meets.complete dirhdrCmd_unites rfl ht with ⟨u, hu, rfl⟩ | ⟨e, u, -, rfl⟩
  · exact hu
  · cases herr

/-- Settles O32: the formulas by the frames' extents, the bounds and where they are reached by their union. -/
theorem extentsFollowFormulas : Obligations.ExtentsFollowFormulas := by
  intro s t ht herr
  obtain ⟨hfinished, hunion, hframeless⟩ := exec_dirhdr_unites ht herr
  refine ⟨fun f hf => ?_, fun hn => ?_, fun hz => hframeless (BitVec.eq_of_toNat_eq hz)⟩
  · obtain ⟨hxmin, hxmax, hymin, hymax⟩ := extents_of_finished (hfinished f hf)
    have hinside := frameInside_union hfinished hf
    rw [← hunion fun hz => by simp [hz] at hf] at hinside
    obtain ⟨-, -, hbounds⟩ := hinside
    refine ⟨hxmin, hxmax, fun hup => ?_, fun hup => ?_, hbounds⟩
    · rw [hymin, hymax, if_pos hup, if_pos hup]
      exact ⟨rfl, rfl⟩
    · rw [hymin, hymax, hup]
      exact ⟨rfl, rfl⟩
  · rw [hunion fun hz => by simp [hz] at hn]
    exact unionExtents_attained hn

end Sys2Proof.Machine

/-! PROOF of O29 (R160, R190, R200, R201, R207, R225, R252, R254): a stage command begins with the checks of its prerequisites, and
one that fails raises in the state the command was given. -/
namespace Sys2Proof.Machine

open Sys2Proof.Claims

variable {s : State} {e : ErrorKind} {x : Cmd Unit}

/-- A command error raised before anything is written (R252). -/
theorem complete_commandError (he : isDataError e = false) (h : x.run s = .error e s) :
    complete .stage x s = .next { s with err := some e } := by
  rw [complete_error h, takeError, he]
  simp

/-- DECODE begins with DIRHDR (R225). -/
theorem exec_dirhdr_decodeDir_commandError (he : isDataError e = false) (h : dirhdrCmd.run s = .error e s) :
    ∀ i ∈ [Instr.dirhdr, .decodeDir], exec i s = .next { s with err := some e } := by
  simp only [List.forall_mem_cons, List.not_mem_nil, false_implies, implies_true, and_true]
  exact ⟨complete_commandError he h, complete_commandError he (run_bind_error h)⟩

theorem dirhdrCmd_idle (h : s.stage = .idle) : dirhdrCmd.run s = .error .sequenceError s :=
  run_raiseWhen_raise (decide_eq_true h)

theorem dirhdrCmd_noDirection (hs : s.stage ≠ .idle) (h : s.header.dirCnt.toNat ≤ s.arg0.toNat) :
    dirhdrCmd.run s = .error .badIndex s :=
  (run_raiseWhen_pass (decide_eq_false hs)).trans (run_raiseWhen_raise (decide_eq_true h))

/-- The other stage commands check the stage before them. -/
theorem complete_notReady {g : Stage} {y : Unit → Cmd Unit} (h : ¬ s.readyAt g) :
    complete .stage (raiseWhen (fun s => !stageReady g s) .sequenceError >>= y) s = .next { s with err := some .sequenceError } :=
  complete_commandError rfl (run_raiseWhen_raise (by simpa [← stageReady_iff] using h))

/-- Settles O29: DIRHDR's two checks, which DECODE begins with, and the check of the other four. -/
theorem commandErrorsChangeOnlyErr : Obligations.CommandErrorsChangeOnlyErr := by
  refine fun s => ⟨fun h => exec_dirhdr_decodeDir_commandError rfl (dirhdrCmd_idle h),
    fun hs h => exec_dirhdr_decodeDir_commandError rfl (dirhdrCmd_noDirection hs h), fun p hp hnot => ?_⟩
  have hready : ¬ s.readyAt p.2 := fun ⟨hstage, hfailed⟩ => hnot.elim (· hstage) fun h => by simp [h] at hfailed
  simp only [List.mem_cons, List.not_mem_nil, or_false] at hp
  rcases hp with rfl | rfl | rfl | rfl
  all_goals exact complete_notReady hready

end Sys2Proof.Machine

/-! PROOF of O36 (R99, R190, R200, R253, R256): how far PREFIX and PCT have read cursor 0. A read is refused only past the bits
cursor 0 has, so that a command that ends had them all, and one that raises left cursor 0 in error. -/
namespace Sys2Proof.Machine

open Sys2Proof.Claims

variable {k : Cursor} {n w N : Nat} {s u : State} {F G H : State → Prop}

/-! ### Reading on from a cursor -/

/-- An access of fewer bits is refused no sooner (R70). -/
theorem Cursor.blocks_mono (h : k.blocks n = true) (hN : n ≤ N) : k.blocks N = true :=
  Cursor.blocks_eq_true.2 ((Cursor.blocks_eq_true.1 h).imp_right fun hlt => by omega)

/-- Cursor 0, which was `k`, has moved past `n` bits. With no bit read it may be in error. -/
structure PastBits (k : Cursor) (n : Nat) (u : State) : Prop where
  fit : n = 0 ∨ k.blocks n = false
  main : u.cursor cMain = movedTo k (k.pos.toNat + n)

/-- A read of `N` bits in all was cut short: `k` does not have them (R70). -/
def CutWithin (k : Cursor) (N : Nat) (H : State → Prop) (e : ErrorKind) (u : State) : Prop :=
  k.blocks N = true ∧ CutShort e u ∧ H u

theorem pastBits_zero (hk : s.cursor cMain = k) : PastBits k 0 s := ⟨.inl rfl, hk.trans movedTo_pos.symm⟩

theorem PastBits.pos (h : PastBits k n u) : (u.cursor cMain).pos.toNat = k.pos.toNat + n := by
  rw [h.main]
  exact pos_toNat_movedTo (h.fit.imp_right fun hb => (Cursor.blocks_eq_false.1 hb).2)

theorem PastBits.blocks (h : PastBits k n u) : (u.cursor cMain).blocks w = k.blocks (n + w) := by
  rw [Cursor.blocks, Cursor.blocks, h.pos, h.main, Nat.add_assoc]
  rfl

theorem PastBits.advance (h : PastBits k n u) (hb : (u.cursor cMain).blocks w = false) :
    PastBits k (n + w) (u.setCursor cMain ((u.cursor cMain).advance w)) where
  fit := .inr (h.blocks.symm.trans hb)
  main := by
    rw [State.cursor_setCursor_self, Cursor.advance_ok hb, h.pos, h.main, Nat.add_assoc]
    rfl

theorem PastBits.of_cursors {v : State} (h : PastBits k n u) (hc : v.cursors = u.cursors) : PastBits k n v :=
  ⟨h.fit, by rw [State.cursor, hc, ← State.cursor, h.main]⟩

/-- A read into a state element as part of `N` bits: `F` becomes `G` with the stream's field, and a refused read leaves `H`. -/
theorem readInto_past {g : Nat → State → State} (hN : n + w ≤ N) (hmoved : ∀ u l, F u → F (u.setCursor cMain l))
    (hkept : ∀ v u, (g v u).cursors = u.cursors) (hread : ∀ u, F u → G (g (fieldAt u.src (nextBit k + n) w) u))
    (hcut : ∀ u, F u → H u) :
    Meets (fun u => PastBits k n u ∧ F u) (readInto w g) (fun _ u => PastBits k (n + w) u ∧ G u) (CutWithin k N H) := by
  rintro u ⟨hu, hF⟩
  rw [readInto, run_bind]
  rcases readOrFail_cases cMain w u with ⟨hb, hrun⟩ | ⟨hb, hrun⟩
  · have hnext : (u.cursor cMain).base.toNat + (u.cursor cMain).pos.toNat = nextBit k + n := by
      rw [hu.pos, hu.main, nextBit, Nat.add_assoc]
      rfl
    rw [hrun, hnext]
    exact ⟨(hu.advance hb).of_cursors (hkept ..), hread _ (hmoved _ _ hF)⟩
  · rw [hrun]
    exact ⟨Cursor.blocks_mono (hu.blocks.symm.trans hb) hN, ⟨rfl, by rw [State.cursor_setCursor_self]⟩, hcut _ (hmoved _ _ hF)⟩

/-! ### PREFIX -/

/-- What PREFIX writes before its end: the sizes and cursor 0 (R200). -/
def PrefixFrame (s u : State) : Prop :=
  u = { s with sizes := u.sizes, cursors := s.cursors.set cMain (u.cursor cMain) }

theorem prefixFrame_refl : PrefixFrame s s := (State.setCursor_same s cMain).symm

theorem PrefixFrame.setCursor (l : Cursor) (h : PrefixFrame s u) : PrefixFrame s (u.setCursor cMain l) := by
  rw [PrefixFrame, State.cursor_setCursor_self]
  exact (congrArg (State.setCursor · cMain l) h).trans (by simp [State.setCursor])

theorem PrefixFrame.setSizes (z : SubSizes) (h : PrefixFrame s u) : PrefixFrame s { u with sizes := z } :=
  congrArg (fun v : State => ({ v with sizes := z } : State)) h

/-- One length (R200). -/
theorem readLength_past {g : Nat → State → SubSizes} (hN : n + 20 ≤ N) :
    Meets (fun u => PastBits k n u ∧ PrefixFrame s u) (readInto 20 fun v u => { u with sizes := g v u })
      (fun _ u => PastBits k (n + 20) u ∧ PrefixFrame s u) (CutWithin k N (PrefixFrame s)) :=
  readInto_past hN (fun _ l h => h.setCursor l) (fun _ _ => rfl) (fun _ h => h.setSizes _) fun _ h => h

/-- Lengths that a flag calls for (R99). -/
theorem flagged_past {p : State → Bool} {x : Cmd Unit} {E : ErrorKind → State → Prop} (hp : ∀ u, F u → p u = p s)
    (hx : p s = true → Meets (fun u => PastBits k n u ∧ F u) x (fun _ u => PastBits k (n + w) u ∧ F u) E) :
    Meets (fun u => PastBits k n u ∧ F u) (withState fun u => onlyIf (p u) x)
      (fun _ u => PastBits k (n + w * (p s).toNat) u ∧ F u) E := by
  refine withState_meets fun u hu => ?_
  rw [hp u hu.2]
  cases hps : p s
  · exact Meets.pure fun _ hv => hv
  · simpa [onlyIf] using hx hps

/-- Everything PREFIX can do with cursor 0 at stage HDR. -/
theorem prefixCmd_past (hk : s.cursor cMain = k) (hr : s.readyAt .hdr) : Meets (fun u => u = s) prefixCmd
    (fun _ _ => k.blocks (20 * prefixCount s) = false) (CutWithin k (20 * prefixCount s) (PrefixFrame s)) := by
  have hcount : 20 * prefixCount s = 0 + 20 * s.compEq.toNat + 20 + 40 * s.hasRaw.toNat := by rw [prefixCount]; omega
  refine Meets.bind (requireStage_meets (P := fun u => PastBits k 0 u ∧ PrefixFrame s u) (fun _ hu hn => absurd hr (hu ▸ hn))
    fun _ hu _ => hu.symm ▸ ⟨pastBits_zero hk, prefixFrame_refl⟩) fun _ => ?_
  refine Meets.bind (flagged_past (p := State.compEq) (w := 20) (fun _ hu => by rw [hu]) fun hp => readLength_past ?_) fun _ => ?_
  · rw [hcount, hp, Bool.toNat_true]
    omega
  refine Meets.bind (readLength_past (by omega)) fun _ => ?_
  refine Meets.bind (flagged_past (p := State.hasRaw) (w := 40) (fun _ hu => by rw [hu]) fun hp => ?_) fun _ =>
    Meets.write fun u hu => hcount ▸ hu.1.fit.resolve_left (by omega)
  have hboth : 0 + 20 * s.compEq.toNat + 20 + 40 ≤ 20 * prefixCount s := by simp [hcount, hp]
  exact Meets.bind (readLength_past (by omega)) fun _ => readLength_past hboth

/-! ### PCT -/

/-- What PCT writes before its end: the table and cursor 0 (R190). -/
def PctFrame (s u : State) : Prop :=
  u = { s with pct := u.pct, pctCount := u.pctCount, cursors := s.cursors.set cMain (u.cursor cMain) }

theorem pctFrame_refl : PctFrame s s := (State.setCursor_same s cMain).symm

theorem PctFrame.setCursor (l : Cursor) (h : PctFrame s u) : PctFrame s (u.setCursor cMain l) := by
  rw [PctFrame, State.cursor_setCursor_self]
  exact (congrArg (State.setCursor · cMain l) h).trans (by simp [State.setCursor])

theorem PctFrame.putCode (j : Byte) (h : PctFrame s u) : PctFrame s (u.putCode j) := congrArg (State.putCode · j) h

/-- Everything PCT can do with cursor 0 at stage PREFIX, and what of it the presence bits read tell: `I j` holds after `j` of
them (R190). -/
theorem pctCmd_past {I : Nat → State → Prop} (hk : s.cursor cMain = k) (hr : s.readyAt .prefixed) (hzero : I 0 s)
    (hmoved : ∀ j u l, I j u → I j (u.setCursor cMain l))
    (hput : ∀ j u, j < 256 → srcBit s.src (nextBit k + j) = true → I j u → I (j + 1) (u.putCode (BitVec.ofNat 8 j)))
    (hskip : ∀ j u, srcBit s.src (nextBit k + j) = false → I j u → I (j + 1) u) :
    Meets (fun u => u = s) pctCmd
      (fun _ t => k.blocks 256 = false ∧ ∃ u, PastBits k 256 u ∧ PctFrame s u ∧ I 256 u ∧ t = { u with stage := .pct })
      (CutWithin k 256 (PctFrame s)) := by
  have hbit : ∀ j, j < 256 → Meets (fun u => PastBits k j u ∧ PctFrame s u ∧ I j u) (readPresence j)
      (fun _ u => PastBits k (j + 1) u ∧ PctFrame s u ∧ I (j + 1) u) (CutWithin k 256 (PctFrame s)) := fun j hj => by
    refine readInto_past (F := fun u => PctFrame s u ∧ I j u)
      (g := fun v u => if v = 1 then u.putCode (BitVec.ofNat 8 j) else u) hj
      (fun u l h => ⟨h.1.setCursor l, hmoved j u l h.2⟩) (fun v u => ?_) (fun u ⟨hF, hI⟩ => ?_) fun _ h => h.1
    · split <;> rfl
    · have hsrc : u.src = s.src := by rw [hF]
      have hb := decide_fieldAt_one s.src (nextBit k + j)
      rw [hsrc]
      split
      case isTrue hone => exact ⟨hF.putCode _, hput j u hj (hb ▸ decide_eq_true hone) hI⟩
      case isFalse hone => exact ⟨hF, hskip j u (hb ▸ decide_eq_false hone) hI⟩
  unfold pctCmd
  generalize hn : (256 : Nat) = n at hbit ⊢
  refine Meets.bind (requireStage_meets (P := fun u => PastBits k 0 u ∧ PctFrame s u ∧ I 0 u)
    (fun _ hu h => absurd hr (hu ▸ h)) fun _ hu _ => hu.symm ▸ ⟨pastBits_zero hk, pctFrame_refl, hzero⟩) fun _ => ?_
  refine Meets.bind (Meets.forBelow (I := fun j u => PastBits k j u ∧ PctFrame s u ∧ I j u) n hbit) fun _ => ?_
  exact Meets.write fun u ⟨hu, hF, hI⟩ => ⟨hu.fit.resolve_left (by omega), u, hu, hF, hI, rfl⟩

/-! ### The two commands cut short -/

/-- A command that ends only when cursor 0 has `N` bits, where it does not (R253). -/
theorem complete_cutWithin {x : Cmd Unit} {Q : Unit → State → Prop} (h : Meets (fun u => u = s) x Q (CutWithin k N H))
    (hQ : ∀ t, Q () t → k.blocks N = false) (hb : k.blocks N = true) :
    ∃ u, complete .stage x s = .next { u with err := some .truncatedStream, failed := true } ∧
      (u.cursor cMain).err = true ∧ H u := by
  have hraises := h.weaken (fun _ h => h) (fun _ t ht => Bool.eq_false_iff.1 (hQ t ht) hb) fun _ _ h => h
  obtain ⟨_, u, hrun, -, ⟨rfl, herr⟩, hH⟩ := hraises.raises rfl
  exact ⟨u, (complete_error hrun).trans (by simp [takeError, isDataError]), herr, hH⟩

/-- Settles O36: each command's outcome on a cursor 0 that does not have the bits it reads, in the command's frame. -/
theorem prefixAndPctReportTruncation : Obligations.PrefixAndPctReportTruncation := by
  refine fun s k hk hfailed => ⟨fun hstage hshort => ?_, fun hstage hshort => ?_⟩
  · obtain ⟨u, ht, herr, hframe⟩ := complete_cutWithin (prefixCmd_past hk ⟨hstage, hfailed⟩) (fun _ h => h)
      (Cursor.blocks_eq_true.2 hshort)
    refine ⟨_, ht, rfl, rfl, (congrArg State.stage hframe).trans hstage, herr, ?_⟩
    exact congrArg (fun v : State => ({ v with err := some .truncatedStream, failed := true } : State)) hframe
  · obtain ⟨u, ht, herr, hframe⟩ := complete_cutWithin (pctCmd_past (I := fun _ _ => True) hk ⟨hstage, hfailed⟩ trivial
      (fun _ _ _ _ => trivial) (fun _ _ _ _ _ => trivial) fun _ _ _ _ => trivial) (fun _ h => h.1)
      (Cursor.blocks_eq_true.2 hshort)
    refine ⟨_, ht, rfl, rfl, (congrArg State.stage hframe).trans hstage, herr, ?_⟩
    exact congrArg (fun v : State => ({ v with err := some .truncatedStream, failed := true } : State)) hframe

end Sys2Proof.Machine

/-! PROOF of O35 (R190, R191): PCT appends to the table the value of each presence bit that is 1, in the order of the bits. -/
namespace Sys2Proof.Machine

open Sys2Proof.Claims

/-- The byte values below `j` whose bit is 1 in the presence map at bit address `b` (R191). -/
def presentValues (m : Memory) (b j : Nat) : List Nat := (List.range j).filter fun i => srcBit m (b + i)

/-- The table of `u` lists `l` and is that of `s` behind it (R42, R190). -/
structure ListsCodes (s : State) (l : List Nat) (u : State) : Prop where
  count : u.pctCount.toNat = l.length
  listed : ∀ (i : Nat) (hi : i < l.length), (u.code i).toNat = l[i]
  behind : ∀ i, l.length ≤ i → u.code i = s.code i

variable {m : Memory} {b j : Nat} {s u : State} {l : List Nat} {k : Cursor}

theorem presentValues_succ_of_present (h : srcBit m (b + j) = true) : presentValues m b (j + 1) = presentValues m b j ++ [j] := by
  simp [presentValues, List.range_succ, h]

theorem presentValues_succ_of_absent (h : srcBit m (b + j) = false) : presentValues m b (j + 1) = presentValues m b j := by
  simp [presentValues, List.range_succ, h]

theorem length_presentValues_le : (presentValues m b j).length ≤ j := by
  simpa [presentValues] using List.length_filter_le (fun i => srcBit m (b + i)) (List.range j)

theorem listsCodes_nil (h : s.pctCount = 0) : ListsCodes s [] s :=
  ⟨congrArg BitVec.toNat h, fun _ hi => absurd hi (Nat.not_lt_zero _), fun _ _ => rfl⟩

/-- PCT writes cursor 0 besides the table. -/
theorem ListsCodes.setCursor (c : CursorIx) (k : Cursor) (h : ListsCodes s l u) : ListsCodes s l (u.setCursor c k) :=
  ⟨h.count, h.listed, h.behind⟩

/-- The next value goes behind the list (R190). -/
theorem ListsCodes.putCode (h : ListsCodes s l u) (hl : l.length ≤ j) (hj : j < 256) :
    ListsCodes s (l ++ [j]) (u.putCode (BitVec.ofNat 8 j)) where
  count := by
    rw [State.putCode_pctCount, BitVec.toNat_add_of_lt (by rw [h.count]; simp; omega), h.count, List.length_append]
    rfl
  listed i hi := by
    rw [State.code_putCode, h.count]
    split
    case isTrue hlast => simp [hlast, Nat.mod_eq_of_lt hj]
    case isFalse hne =>
      have hlt : i < l.length := by simp at hi; omega
      rw [h.listed i hlt, List.getElem_append_left hlt]
  behind i hi := by
    have hlt : l.length < i := by simpa using hi
    rw [State.code_putCode, h.count, if_neg hlt.ne', h.behind i hlt.le]

/-- PCT on a cursor 0 that has the 256 bits of the map. -/
theorem pctCmd_lists (hk : s.cursor cMain = k) (hr : s.readyAt .prefixed) (hcount : s.pctCount = 0) (hb : k.blocks 256 = false) :
    ∃ u, pctCmd.run s = .ok () { u with stage := .pct } ∧ PastBits k 256 u ∧ PctFrame s u ∧
      ListsCodes s (presentValues s.src (nextBit k) 256) u := by
  have hends := pctCmd_past (I := fun j => ListsCodes s (presentValues s.src (nextBit k) j)) hk hr (listsCodes_nil hcount)
    (fun _ _ k h => h.setCursor cMain k)
    (fun _ _ hj hbit h => presentValues_succ_of_present hbit ▸ h.putCode length_presentValues_le hj)
    fun _ _ hbit h => (presentValues_succ_of_absent hbit).symm ▸ h
  obtain ⟨_, _, hrun, -, u, hpast, hframe, hlists, rfl⟩ :=
    (hends.weaken (fun _ h => h) (fun _ _ h => h) fun _ _ h => Bool.eq_false_iff.1 hb h.1).ends rfl
  exact ⟨u, hrun, hpast, hframe, hlists⟩

/-- Settles O35: the list after all 256 bits, then STAGE and ERR. -/
theorem pctListsPresentValues : Obligations.PctListsPresentValues := by
  rintro s k _ hk hstage hfailed hcount herr hlen rfl
  obtain ⟨u, hrun, hpast, hframe, hlists⟩ :=
    pctCmd_lists hk ⟨hstage, hfailed⟩ hcount (Cursor.blocks_eq_false.2 ⟨herr, hlen⟩)
  refine ⟨_, complete_ok hrun, hlists.count, hlists.listed, hlists.behind, ?_⟩
  rw [← hpast.main]
  exact congrArg (fun v : State => ({ v with stage := .pct, err := none } : State)) hframe

end Sys2Proof.Machine

/-! PROOF of O39 and O40 (R203, R204, R208, R209): cells along one axis of the direction, then the grid as rows of columns. -/
namespace Sys2Proof.Machine

open Sys2Proof.Claims

/-! ### The last cell along an axis -/

/-- The size in pixels of the last cell along an axis of `d` pixels (R204). -/
def lastCellSize (d : Int) : Nat := if d % 4 ≠ 0 then (d % 4).toNat else 4

section
variable {s : State} {cx cy : Nat}

theorem columnWidth_inner (h : cx + 1 < s.gw.toNat) : s.columnWidth cx = 4 := if_neg fun hc => by omega

theorem columnWidth_last (h : 0 < s.gw.toNat) :
    s.columnWidth (s.gw.toNat - 1) = lastCellSize (s.extents.xmax.toInt - s.extents.xmin.toInt) := by
  simp only [State.columnWidth, lastCellSize, Nat.sub_add_cancel h, true_and]

theorem rowHeight_inner (h : cy + 1 < s.gh.toNat) : s.rowHeight cy = 4 := if_neg fun hc => by omega

theorem rowHeight_last (h : 0 < s.gh.toNat) :
    s.rowHeight (s.gh.toNat - 1) = lastCellSize (s.extents.ymax.toInt - s.extents.ymin.toInt) := by
  simp only [State.rowHeight, lastCellSize, Nat.sub_add_cancel h, true_and]

end

theorem cellsAcross_pos {lo hi : DWord} (h : lo.toInt < hi.toInt) : 0 < cellsAcross lo hi := by
  unfold cellsAcross
  omega

/-- Cells of 4 pixels with the last one the remainder are as long as the axis (R203, R204). -/
theorem cells_tile_axis {lo hi : DWord} (h : lo.toInt < hi.toInt) :
    1 ≤ lastCellSize (hi.toInt - lo.toInt) ∧ lastCellSize (hi.toInt - lo.toInt) ≤ 4 ∧
      ((4 * (cellsAcross lo hi - 1) + lastCellSize (hi.toInt - lo.toInt) : Nat) : Int) = hi.toInt - lo.toInt := by
  unfold lastCellSize cellsAcross
  split <;> omega

/-- Settles O39: the same tiling along both axes. -/
theorem cellsTileDirection : Obligations.CellsTileDirection := by
  refine fun s => ⟨fun hx hgw => ⟨fun _ => columnWidth_inner, ?_⟩, fun hy hgh => ⟨fun _ => rowHeight_inner, ?_⟩⟩
  · rw [columnWidth_last (hgw ▸ cellsAcross_pos hx), hgw]
    exact cells_tile_axis hx
  · rw [rowHeight_last (hgh ▸ cellsAcross_pos hy), hgh]
    exact cells_tile_axis hy

/-! ### The cells a range of pixels meets along an axis -/

theorem mem_upTo {lo hi c : Nat} : c ∈ upTo lo hi ↔ lo ≤ c ∧ c ≤ hi := by
  rw [upTo, List.mem_range'_1]
  omega

theorem upTo_pairwise (lo hi : Nat) : (upTo lo hi).Pairwise (· < ·) := List.pairwise_lt_range'

/-- The cells from that of the first pixel to that of the last are those of some pixel in between (R208). -/
theorem mem_upTo_cellOf {o a b : Int} {c : Nat} (ho : o ≤ a) (hab : a < b) :
    c ∈ upTo (cellOf a o) (cellOf (b - 1) o) ↔ ∃ v, a ≤ v ∧ v < b ∧ c = cellOf v o := by
  simp only [mem_upTo, cellOf]
  constructor
  · rintro ⟨hlo, hhi⟩
    exact ⟨max a (o + 4 * c), by omega, by omega, by omega⟩
  · rintro ⟨v, hav, hvb, rfl⟩
    omega

theorem cellOf_lt_cellsAcross {lo hi : DWord} {v : Int} (hlo : lo.toInt ≤ v) (hhi : v < hi.toInt) :
    cellOf v lo.toInt < cellsAcross lo hi := by
  unfold cellOf cellsAcross
  omega

/-! ### Rows of columns (R209) -/

/-- Cell indices row by row rise strictly when every column is inside the grid. -/
theorem rowMajor_pairwise {rows cols : List Nat} {w : Nat} (hrows : rows.Pairwise (· < ·)) (hcols : cols.Pairwise (· < ·))
    (hw : ∀ c ∈ cols, c < w) : (rows.flatMap fun r => cols.map fun c => r * w + c).Pairwise (· < ·) := by
  refine List.pairwise_flatMap.2 ⟨fun r _ => ?_, hrows.imp fun {r r'} hr k hk k' hk' => ?_⟩
  · exact hcols.map _ fun c c' hc => Nat.add_lt_add_left hc _
  · obtain ⟨c, hc, rfl⟩ := List.mem_map.1 hk
    obtain ⟨c', -, rfl⟩ := List.mem_map.1 hk'
    calc r * w + c < r * w + w := Nat.add_lt_add_left (hw c hc) _
      _ = (r + 1) * w := (Nat.succ_mul r w).symm
      _ ≤ r' * w := Nat.mul_le_mul_right w hr
      _ ≤ r' * w + c' := Nat.le_add_right ..

theorem rowMajor_lt {r c w h : Nat} (hr : r < h) (hc : c < w) : r * w + c < w * h := by
  calc r * w + c < (r + 1) * w := by rw [Nat.succ_mul]; omega
    _ ≤ h * w := Nat.mul_le_mul_right w hr
    _ = w * h := Nat.mul_comm h w

/-! ### The covered cells -/

section
variable {s : State} {f : Nat}

theorem coveredCells_empty (h : (s.frame f).width = 0 ∨ (s.frame f).height = 0) : s.coveredCells f = [] := if_pos h

/-- The columns the pixels of frame `f` meet (R208). -/
def State.coveredColumns (s : State) (f : Nat) : List Nat :=
  upTo (cellOf (s.frame f).fxmin.toInt s.extents.xmin.toInt) (cellOf ((s.frame f).fxmax.toInt - 1) s.extents.xmin.toInt)

/-- The rows the pixels of frame `f` meet (R208). -/
def State.coveredRows (s : State) (f : Nat) : List Nat :=
  upTo (cellOf (s.frame f).fymin.toInt s.extents.ymin.toInt) (cellOf ((s.frame f).fymax.toInt - 1) s.extents.ymin.toInt)

theorem coveredCells_rowMajor (h : ¬ ((s.frame f).width = 0 ∨ (s.frame f).height = 0)) :
    s.coveredCells f = (s.coveredRows f).flatMap fun cy => (s.coveredColumns f).map fun cx => cy * s.gw.toNat + cx := if_neg h

theorem mem_coveredCells (h : ¬ ((s.frame f).width = 0 ∨ (s.frame f).height = 0)) {k : Nat} :
    k ∈ s.coveredCells f ↔ ∃ cy ∈ s.coveredRows f, ∃ cx ∈ s.coveredColumns f, cy * s.gw.toNat + cx = k := by
  simp only [coveredCells_rowMajor h, List.mem_flatMap, List.mem_map]

/-- A frame with pixels meets the columns of its pixels (R208). -/
theorem mem_coveredColumns (hin : frameInside s.extents (s.frame f)) (h : ¬ ((s.frame f).width = 0 ∨ (s.frame f).height = 0))
    {c : Nat} : c ∈ s.coveredColumns f ↔
      ∃ x, (s.frame f).fxmin.toInt ≤ x ∧ x < (s.frame f).fxmax.toInt ∧ c = cellOf x s.extents.xmin.toInt := by
  obtain ⟨hwidth, -, hxmin, -⟩ := hin
  have hpos := BitVec.toNat_pos_of_ne_zero fun hw => h (.inl hw)
  exact mem_upTo_cellOf hxmin (by omega)

/-- A frame with pixels meets the rows of its pixels (R208). -/
theorem mem_coveredRows (hin : frameInside s.extents (s.frame f)) (h : ¬ ((s.frame f).width = 0 ∨ (s.frame f).height = 0))
    {c : Nat} : c ∈ s.coveredRows f ↔
      ∃ y, (s.frame f).fymin.toInt ≤ y ∧ y < (s.frame f).fymax.toInt ∧ c = cellOf y s.extents.ymin.toInt := by
  obtain ⟨-, hheight, -, -, hymin, -⟩ := hin
  have hpos := BitVec.toNat_pos_of_ne_zero fun hh => h (.inr hh)
  exact mem_upTo_cellOf hymin (by omega)

/-- The cells a frame meets are inside the grid (R203). -/
theorem covered_lt_grid (hin : frameInside s.extents (s.frame f)) (h : ¬ ((s.frame f).width = 0 ∨ (s.frame f).height = 0))
    (hgw : s.gw.toNat = cellsAcross s.extents.xmin s.extents.xmax)
    (hgh : s.gh.toNat = cellsAcross s.extents.ymin s.extents.ymax) :
    (∀ c ∈ s.coveredColumns f, c < s.gw.toNat) ∧ ∀ c ∈ s.coveredRows f, c < s.gh.toNat := by
  obtain ⟨-, -, hxmin, hxmax, hymin, hymax⟩ := id hin
  refine ⟨fun c hc => ?_, fun c hc => ?_⟩
  · obtain ⟨x, hlo, hhi, rfl⟩ := (mem_coveredColumns hin h).1 hc
    exact hgw ▸ cellOf_lt_cellsAcross (hxmin.trans hlo) (hhi.trans_le hxmax)
  · obtain ⟨y, hlo, hhi, rfl⟩ := (mem_coveredRows hin h).1 hc
    exact hgh ▸ cellOf_lt_cellsAcross (hymin.trans hlo) (hhi.trans_le hymax)

/-- A frame without pixels: no pixel is in its rectangle (R166). -/
theorem no_pixel_of_empty (hin : frameInside s.extents (s.frame f)) (h : (s.frame f).width = 0 ∨ (s.frame f).height = 0) :
    ¬ ((s.frame f).fxmin.toInt < (s.frame f).fxmax.toInt ∧ (s.frame f).fymin.toInt < (s.frame f).fymax.toInt) := by
  obtain ⟨hwidth, hheight, -⟩ := hin
  rintro ⟨hx, hy⟩
  rcases h with h | h
  · have h0 : (s.frame f).width.toNat = 0 := congrArg BitVec.toNat h
    omega
  · have h0 : (s.frame f).height.toNat = 0 := congrArg BitVec.toNat h
    omega

end

/-- Settles O40: a frame without pixels covers nothing; the cells of another are rows of columns, each those of some pixel. -/
theorem coveredCellsAreThoseMet : Obligations.CoveredCellsAreThoseMet := by
  intro s f hin hgw hgh
  by_cases h : (s.frame f).width = 0 ∨ (s.frame f).height = 0
  · rw [coveredCells_empty h]
    refine ⟨.nil, nofun, fun k => ⟨nofun, fun ⟨x, y, hx, hx', hy, hy', _⟩ => ?_⟩⟩
    exact absurd ⟨hx.trans_lt hx', hy.trans_lt hy'⟩ (no_pixel_of_empty hin h)
  · obtain ⟨hcols, hrows⟩ := covered_lt_grid hin h hgw hgh
    refine ⟨?_, fun k hk => ?_, fun k => ?_⟩
    · rw [coveredCells_rowMajor h]
      exact rowMajor_pairwise (upTo_pairwise ..) (upTo_pairwise ..) hcols
    · obtain ⟨cy, hcy, cx, hcx, rfl⟩ := (mem_coveredCells h).1 hk
      exact rowMajor_lt (hrows cy hcy) (hcols cx hcx)
    · rw [mem_coveredCells h]
      constructor
      · rintro ⟨cy, hcy, cx, hcx, rfl⟩
        obtain ⟨x, hx, hx', rfl⟩ := (mem_coveredColumns hin h).1 hcx
        obtain ⟨y, hy, hy', rfl⟩ := (mem_coveredRows hin h).1 hcy
        exact ⟨x, y, hx, hx', hy, hy', rfl⟩
      · rintro ⟨x, y, hx, hx', hy, hy', rfl⟩
        exact ⟨_, (mem_coveredRows hin h).2 ⟨y, hy, hy', rfl⟩, _,
          (mem_coveredColumns hin h).2 ⟨x, hx, hx', rfl⟩, rfl⟩

end Sys2Proof.Machine

/-! PROOF of O44 (R214, R219): slot by slot, the stack is popped once for every mask bit that is set, so a set slot gets the code
that lies as deep in the stack as there are set bits below the slot. -/
namespace Sys2Proof.Machine

open Sys2Proof.Claims

section
variable {mask : BitVec 4} {i : Nat}

theorem maskRank_zero : maskRank mask 0 = 0 := rfl

theorem maskRank_succ : maskRank mask (i + 1) = maskRank mask i + (mask.getLsbD i).toNat := by
  rw [maskRank, maskRank, List.range_succ, List.filter_append, List.length_append]
  cases h : mask.getLsbD i <;> simp [h]

theorem maskRank_mono (mask : BitVec 4) : Monotone (maskRank mask) :=
  monotone_nat_of_le_succ fun _ => maskRank_succ ▸ Nat.le_add_right ..

theorem maskRank_four : maskRank mask 4 = popcount4 mask := by
  simp only [maskRank_succ, maskRank_zero, popcount4, Nat.zero_add]

theorem popcount4_le (mask : BitVec 4) : popcount4 mask ≤ 4 := by
  have h := fun i => Bool.toNat_le (mask.getLsbD i)
  have := h 0
  have := h 1
  have := h 2
  have := h 3
  unfold popcount4
  omega

/-- The mask has more set bits than those below a set bit (R214). -/
theorem maskRank_lt_popcount4 (hi : i < 4) (h : mask.getLsbD i = true) : maskRank mask i < popcount4 mask := by
  have hle : maskRank mask (i + 1) ≤ maskRank mask 4 := maskRank_mono mask hi
  rwa [maskRank_succ, h, maskRank_four] at hle

theorem afterSlot_drop {b : Bool} {p : List Byte} {n : Nat} : afterSlot b (p.drop n) = p.drop (n + b.toNat) := by
  cases b
  · rfl
  · exact List.tail_drop

/-- A slot filled after `n` pops (R219). -/
theorem fillSlot_drop {b : Bool} {v : Byte} {p : List Byte} {n : Nat} :
    fillSlot b v (p.drop n) = if b then p.getD n 0 else v := by
  rw [fillSlot, List.headD_eq_head?_getD, List.head?_drop, List.getD_eq_getElem?_getD]

/-- The slots of a new entry, for any stack of codes (R219). -/
theorem slotOf_buildSlots (mask : BitVec 4) (prev : Slots) (p : List Byte) (i : Fin 4) :
    slotOf (buildSlots mask prev p) i = if mask.getLsbD i.val then p.getD (maskRank mask i.val) 0 else slotOf prev i := by
  have h1 : afterSlot (mask.getLsbD 0) p = p.drop (maskRank mask 1) := by
    rw [maskRank_succ]
    exact afterSlot_drop (n := maskRank mask 0)
  have h2 : afterSlot (mask.getLsbD 1) (p.drop (maskRank mask 1)) = p.drop (maskRank mask 2) := by
    rw [afterSlot_drop, ← maskRank_succ]
  have h3 : afterSlot (mask.getLsbD 2) (p.drop (maskRank mask 2)) = p.drop (maskRank mask 3) := by
    rw [afterSlot_drop, ← maskRank_succ]
  simp only [buildSlots, h1, h2, h3]
  match i with
  | 0 => exact fillSlot_drop (n := maskRank mask 0)
  | 1 => exact fillSlot_drop
  | 2 => exact fillSlot_drop
  | 3 => exact fillSlot_drop

/-- With no bit of the mask set the slots are the previous entry's (R219). -/
theorem buildSlots_zero (prev : Slots) (p : List Byte) : buildSlots 0 prev p = prev := rfl

theorem popcount4_eq_zero : popcount4 mask = 0 ↔ mask = 0 := by
  revert mask
  decide

end

/-- Settles O44: a stack of as many codes as the mask has set bits is deep enough for each of them. -/
theorem entrySlotsFromCodes : Obligations.EntrySlotsFromCodes := by
  intro mask prev codes hlen i
  rw [slotOf_buildSlots]
  refine ⟨fun hset => ?_, fun hclear => if_neg (Bool.eq_false_iff.1 hclear)⟩
  have hlt : maskRank mask i.val < codes.reverse.length := by
    rw [List.length_reverse, hlen]
    exact maskRank_lt_popcount4 i.isLt hset
  exact ⟨hlt, by rw [if_pos hset, List.getD_eq_getElem _ _ hlt]⟩

end Sys2Proof.Machine

/-! What a cell step does, part by part (R210): every state on the way is the first one with some bits of the four sub-streams
consumed, until an entry or a record is appended. -/
namespace Sys2Proof.Machine

open Sys2Proof.Claims

/-! ### Reading a sub-stream of which some bits are consumed -/

section
variable {s u : State} {c : CursorIx} {n w : Nat}

theorem canRead_iff : canRead s c n ↔ (s.cursor c).blocks n = false := Cursor.blocks_eq_false.symm

theorem canRead_mono {m : Nat} (h : canRead s c n) (hm : m ≤ n) : canRead s c m := ⟨h.1, by omega⟩

theorem usedOn_zero : usedOn s c 0 = s.cursor c := movedTo_pos

/-- A position up to which the stream could be read does not wrap. -/
theorem pos_usedOn (h : 0 < n → canRead s c n) : (usedOn s c n).pos.toNat = (s.cursor c).pos.toNat + n :=
  pos_toNat_movedTo (n.eq_zero_or_pos.imp_right fun hn => (h hn).2)

theorem nextBit_usedOn (h : 0 < n → canRead s c n) : nextBit (usedOn s c n) = nextBit (s.cursor c) + n := by
  rw [nextBit, pos_usedOn h, nextBit, Nat.add_assoc]
  rfl

/-- What can be read of a stream of which `n` bits are consumed. -/
theorem blocks_usedOn (h : 0 < n → canRead s c n) : (usedOn s c n).blocks w = (s.cursor c).blocks (n + w) := by
  rw [Cursor.blocks, Cursor.blocks, pos_usedOn h, Nat.add_assoc]
  rfl

/-- The next field of a stream of which `n` bits are consumed (R70). -/
theorem readOrFail_used (hu : u.cursor c = usedOn s c n) (hsrc : u.src = s.src) (h : canRead s c (n + w)) :
    (readOrFail c w).run u = .ok (fieldAt s.src (nextBit (s.cursor c) + n) w) (u.setCursor c (usedOn s c (n + w))) := by
  have hn : 0 < n → canRead s c n := fun _ => canRead_mono h (Nat.le_add_right ..)
  have hb : (u.cursor c).blocks w = false := by
    rw [hu, blocks_usedOn hn]
    exact canRead_iff.1 h
  rw [readOrFail_ok hb, Cursor.advance_ok hb, hu, pos_usedOn hn, hsrc, ← nextBit_usedOn hn, nextBit,
    pos_usedOn hn, Nat.add_assoc]
  rfl

/-- The next field is not there: the cursor is in error where it stood (R70). -/
theorem readOrFail_used_error (hu : u.cursor c = usedOn s c n) (hn : 0 < n → canRead s c n) (h : ¬ canRead s c (n + w)) :
    (readOrFail c w).run u = .error .truncatedStream (u.setCursor c (inError (usedOn s c n))) := by
  have hb : (u.cursor c).blocks w = true := by
    rw [hu, blocks_usedOn hn]
    exact Bool.eq_true_of_not_eq_false fun hf => h (canRead_iff.2 hf)
  rw [readOrFail_error hb, hu]
  rfl

/-- The first field of a stream. -/
theorem readOrFail_first (hu : u.cursor c = usedOn s c 0) (hsrc : u.src = s.src) (h : canRead s c w) :
    (readOrFail c w).run u = .ok (fieldAt s.src (nextBit (s.cursor c)) w) (u.setCursor c (usedOn s c w)) := by
  have hrun := readOrFail_used (w := w) hu hsrc (by rwa [Nat.zero_add])
  rwa [Nat.add_zero, Nat.zero_add] at hrun

/-- The first field is not there. -/
theorem readOrFail_first_error (hu : u.cursor c = usedOn s c 0) (h : ¬ canRead s c w) :
    (readOrFail c w).run u = .error .truncatedStream (u.setCursor c (inError (s.cursor c))) := by
  rw [← usedOn_zero (s := s)]
  exact readOrFail_used_error hu (fun h0 => absurd h0 (Nat.lt_irrefl 0)) (by rwa [Nat.zero_add])

end

/-! ### A state with bits of the four sub-streams consumed -/

/-- `s` with `e`, `m`, `x` and `r` more bits of the EQ, MASK, RAWU and RAWC streams consumed. -/
def State.used (s : State) (e m x r : Nat) : State := { s with cursors := consumed s e m x r }

section
variable {s : State} {e m x r : Nat}

theorem State.used_eq_setCursor : s.used e m x r =
    (((s.setCursor cEq (usedOn s cEq e)).setCursor cMask (usedOn s cMask m)).setCursor cRawu (usedOn s cRawu x)).setCursor cRawc
      (usedOn s cRawc r) := rfl

theorem State.used_zero : s.used 0 0 0 0 = s := by
  have h := State.setCursor_same s
  simp only [State.used_eq_setCursor, usedOn_zero, h]

theorem State.used_src : (s.used e m x r).src = s.src := rfl

theorem State.used_hasRaw : (s.used e m x r).hasRaw = s.hasRaw := rfl

theorem State.used_cursor_eq : (s.used e m x r).cursor cEq = usedOn s cEq e := by
  rw [State.used_eq_setCursor, State.cursor_setCursor_other _ _ (by decide), State.cursor_setCursor_other _ _ (by decide),
    State.cursor_setCursor_other _ _ (by decide), State.cursor_setCursor_self]

theorem State.used_cursor_mask : (s.used e m x r).cursor cMask = usedOn s cMask m := by
  rw [State.used_eq_setCursor, State.cursor_setCursor_other _ _ (by decide), State.cursor_setCursor_other _ _ (by decide),
    State.cursor_setCursor_self]

theorem State.used_cursor_rawu : (s.used e m x r).cursor cRawu = usedOn s cRawu x := by
  rw [State.used_eq_setCursor, State.cursor_setCursor_other _ _ (by decide), State.cursor_setCursor_self]

theorem State.used_cursor_rawc : (s.used e m x r).cursor cRawc = usedOn s cRawc r := by
  rw [State.used_eq_setCursor, State.cursor_setCursor_self]

theorem State.used_setCursor_eq {n : Nat} : (s.used e m x r).setCursor cEq (usedOn s cEq n) = s.used n m x r := by
  rw [State.used_eq_setCursor, State.setCursor_comm _ (c := cRawc) (d := cEq) (by decide),
    State.setCursor_comm _ (c := cRawu) (d := cEq) (by decide), State.setCursor_comm _ (c := cMask) (d := cEq) (by decide),
    State.setCursor_setCursor]
  rfl

theorem State.used_setCursor_mask {n : Nat} : (s.used e m x r).setCursor cMask (usedOn s cMask n) = s.used e n x r := by
  rw [State.used_eq_setCursor, State.setCursor_comm _ (c := cRawc) (d := cMask) (by decide),
    State.setCursor_comm _ (c := cRawu) (d := cMask) (by decide), State.setCursor_setCursor]
  rfl

theorem State.used_setCursor_rawu {n : Nat} : (s.used e m x r).setCursor cRawu (usedOn s cRawu n) = s.used e m n r := by
  rw [State.used_eq_setCursor, State.setCursor_comm _ (c := cRawc) (d := cRawu) (by decide), State.setCursor_setCursor]
  rfl

theorem State.used_setCursor_rawc {n : Nat} : (s.used e m x r).setCursor cRawc (usedOn s cRawc n) = s.used e m x n := by
  rw [State.used_eq_setCursor, State.setCursor_setCursor]
  rfl

end

/-! ### Steps 1 and 2: the equal-cell bit (R211, R212) -/

section
variable {s : State} {f k : Nat} {h : Option Word}

theorem fieldAt_one (m : Memory) (b : Nat) : fieldAt m b 1 = (srcBit m b).toNat := by simp [fieldAt]

/-- A cell with an equal-cell bit to read. -/
theorem run_cellStep_due {j : Word} (hlast : s.lastEntry k = some j) (heq : s.compEq = true) :
    (cellStep f k).run s = (equalCell f k j).run s := by
  rw [cellStep, run_withState, hlast, heq]

/-- A cell without one. -/
theorem run_cellStep_notDue (hdue : equalBitDue s (s.lastEntry k) = false) :
    (cellStep f k).run s = (decodeCell f k (s.lastEntry k)).run s := by
  rw [cellStep, run_withState]
  cases hlast : s.lastEntry k with
  | none => rfl
  | some j =>
    cases heq : s.compEq with
    | false => rfl
    | true => simp [equalBitDue, hlast, heq] at hdue

theorem run_readEqualBit (h : canRead s cEq 1) :
    (readOrFail cEq 1).run s = .ok (srcBit s.src (nextBit (s.cursor cEq))).toNat (s.used 1 0 0 0) := by
  rw [readOrFail_first usedOn_zero.symm rfl h, fieldAt_one, ← State.used_setCursor_eq (e := 0), State.used_zero]

/-- A cell that is not reused goes on to step 3. -/
theorem run_cellStep_reachesMask (hr : reachesMask s k h) :
    (cellStep f k).run s = (decodeCell f k h).run (s.used (equalBitDue s h).toNat 0 0 0) := by
  obtain ⟨rfl, hbit⟩ := hr
  cases hdue : equalBitDue s (s.lastEntry k) with
  | false => rw [run_cellStep_notDue hdue, Bool.toNat_false, State.used_zero]
  | true =>
    obtain ⟨hcan, hzero⟩ := hbit hdue
    obtain ⟨hsome, heq⟩ := Bool.and_eq_true_iff.1 hdue
    obtain ⟨j, hj⟩ := Option.isSome_iff_exists.1 hsome
    rw [run_cellStep_due hj heq, equalCell, run_bind_ok (run_readEqualBit hcan), hzero, hj]
    rfl

/-! ### Steps 3 to 5: the mask and the raw-usage bit (R213, R215) -/

theorem run_readMask {e : Nat} (hmask : h.isSome = true → canRead s cMask 4) :
    (readMask h).run (s.used e 0 0 0) = .ok (cellMask s h) (s.used e (maskBits h) 0 0) := by
  cases h with
  | none => rfl
  | some j =>
    have hrun := readOrFail_first (State.used_cursor_mask (e := e) (x := 0) (r := 0)) State.used_src (hmask rfl)
    rw [State.used_setCursor_mask] at hrun
    rw [readMask, run_bind_ok hrun]
    rfl

theorem run_decodeCell_noMask {e : Nat} (hsome : h.isSome = true) (hmask : ¬ canRead s cMask 4) :
    (decodeCell f k h).run (s.used e 0 0 0) =
      .error .truncatedStream ((s.used e 0 0 0).setCursor cMask (inError (s.cursor cMask))) := by
  obtain ⟨j, rfl⟩ := Option.isSome_iff_exists.1 hsome
  exact run_bind_error (run_bind_error (readOrFail_first_error State.used_cursor_mask hmask))

/-- Whether the cell is raw: HASRAW = 1, and the raw-usage bit is 1 (R215). -/
def rawBit (s : State) : Bool := s.hasRaw && srcBit s.src (nextBit (s.cursor cRawu))

theorem rawBit_of_next (hraw : s.hasRaw = true) (hbit : nextBitIs s cRawu true) : rawBit s = true := by
  rw [rawBit, hraw, hbit.2]
  rfl

theorem rawBit_of_incremental (hi : incremental s) : rawBit s = false := by
  rcases hi with hraw | hbit
  · rw [rawBit, hraw, Bool.false_and]
  · rw [rawBit, hbit.2, Bool.and_false]

theorem run_readRawUsage {e m : Nat} (hrawu : s.hasRaw = true → canRead s cRawu 1) :
    readRawUsage.run (s.used e m 0 0) = .ok (rawBit s) (s.used e m s.hasRaw.toNat 0) := by
  rw [readRawUsage, run_withState, rawBit]
  cases hraw : s.hasRaw with
  | false => rw [State.used_hasRaw, hraw]; rfl
  | true =>
    have hrun := readOrFail_first (State.used_cursor_rawu (e := e) (m := m) (r := 0)) State.used_src (hrawu hraw)
    rw [State.used_setCursor_rawu, fieldAt_one] at hrun
    rw [State.used_hasRaw, hraw]
    refine (run_bind_ok hrun).trans ?_
    cases srcBit s.src (nextBit (s.cursor cRawu)) <;> rfl

/-- The cell step of a cell whose mask and raw-usage bit are read, from its codes on (R210 steps 5 to 8). -/
theorem run_cellStep_reachesCodes (hr : reachesCodes s k h) (hrawu : s.hasRaw = true → canRead s cRawu 1) :
    (cellStep f k).run s =
      ((readCodes (rawBit s) (popcount4 (cellMask s h)) []) >>= fun p => withState fun u =>
        recordEntry f k (buildSlots (cellMask s h) (u.prevSlots h) p)).run
          (s.used (equalBitDue s h).toNat (maskBits h) s.hasRaw.toNat 0) := by
  rw [run_cellStep_reachesMask hr.1, decodeCell, run_bind_ok (run_readMask hr.2), run_bind_ok (run_readRawUsage hrawu)]

theorem run_cellStep_noRawUsage (hr : reachesCodes s k h) (hraw : s.hasRaw = true) (hrawu : ¬ canRead s cRawu 1) :
    (cellStep f k).run s = .error .truncatedStream
      ((s.used (equalBitDue s h).toNat (maskBits h) 0 0).setCursor cRawu (inError (s.cursor cRawu))) := by
  have husage : readRawUsage.run (s.used (equalBitDue s h).toNat (maskBits h) 0 0) = .error .truncatedStream
      ((s.used (equalBitDue s h).toNat (maskBits h) 0 0).setCursor cRawu (inError (s.cursor cRawu))) := by
    rw [readRawUsage, run_withState, State.used_hasRaw, hraw]
    exact run_bind_error (readOrFail_first_error State.used_cursor_rawu hrawu)
  rw [run_cellStep_reachesMask hr.1, decodeCell, run_bind_ok (run_readMask hr.2), run_bind_error husage]

end

/-! ### Step 6: the raw codes (R216, R217) -/

/-- The stack after the first `n` codes of the raw-codes stream, the last one on top. -/
def rawStack (s : State) : Nat → List Byte
  | 0 => []
  | n + 1 => rawCode s n :: rawStack s n

section
variable {s : State} {e m x n i : Nat}

theorem rawStack_length : (rawStack s n).length = n := by
  induction n with
  | zero => rfl
  | succ n ih => rw [rawStack, List.length_cons, ih]

theorem rawStack_getElem? (h : i < n) : (rawStack s n)[i]? = some (rawCode s (n - 1 - i)) := by
  induction n generalizing i with
  | zero => exact absurd h (Nat.not_lt_zero i)
  | succ n ih =>
    cases i with
    | zero => rfl
    | succ i =>
      rw [rawStack, List.getElem?_cons_succ, ih (by omega)]
      congr 2
      omega

theorem rawStack_getD (h : i < n) : (rawStack s n).getD i 0 = rawCode s (n - 1 - i) := by
  rw [List.getD_eq_getElem?_getD, rawStack_getElem? h, Option.getD_some]

/-- The code just before code number `n` is on top of the stack. -/
theorem head?_rawStack_eq_some {v : Byte} : (rawStack s n).head? = some v ↔ 1 ≤ n ∧ rawCode s (n - 1) = v := by
  cases n with
  | zero => simp [rawStack]
  | succ n => simp [rawStack]

theorem run_readCode (h : canRead s cRawc (8 * (n + 1))) :
    ∃ v, BitVec.ofNat 8 v = rawCode s n ∧
      (readOrFail cRawc 8).run (s.used e m x (8 * n)) = .ok v (s.used e m x (8 * (n + 1))) := by
  have hrun := readOrFail_used (State.used_cursor_rawc (e := e) (m := m) (x := x)) State.used_src h
  rw [State.used_setCursor_rawc] at hrun
  exact ⟨_, rfl, hrun⟩

/-- The next code, which is a run terminator when it equals the one on top of the stack (R217). -/
theorem run_readCodes_next {p : List Byte} (h : canRead s cRawc (8 * (n + 1))) :
    (readCodes true (i + 1) p).run (s.used e m x (8 * n)) =
      if p.head? = some (rawCode s n) then .ok (0 :: p) (s.used e m x (8 * (n + 1)))
      else (readCodes true i (rawCode s n :: p)).run (s.used e m x (8 * (n + 1))) := by
  obtain ⟨v, hv, hrun⟩ := run_readCode (e := e) (m := m) (x := x) h
  rw [readCodes, run_bind_ok hrun, hv]
  split <;> rfl

/-- Codes of which no two neighbours are equal go onto the stack one after the other (R216). -/
theorem run_readCodes_distinct (h : 0 < n → canRead s cRawc (8 * n))
    (hne : ∀ j, j + 1 < n → rawCode s j ≠ rawCode s (j + 1)) :
    (readCodes true (n + i) []).run (s.used e m x 0) = (readCodes true i (rawStack s n)).run (s.used e m x (8 * n)) := by
  induction n generalizing i with
  | zero => rw [Nat.zero_add]; rfl
  | succ n ih =>
    have hall := h n.succ_pos
    have hfresh : (rawStack s n).head? ≠ some (rawCode s n) := fun hhead => by
      obtain ⟨hn, hlast⟩ := head?_rawStack_eq_some.1 hhead
      have := hne (n - 1) (by omega)
      rw [Nat.sub_add_cancel hn] at this
      exact this hlast
    rw [Nat.add_right_comm, Nat.add_assoc, ih (fun _ => canRead_mono hall (by omega)) fun j hj => hne j (by omega),
      run_readCodes_next hall, if_neg hfresh]
    rfl

/-- Raw codes that are there are read, up to a run terminator if there is one (R216, R217). -/
theorem run_readCodes_ends {p : List Byte} (h : canRead s cRawc (8 * (n + i))) :
    ∃ q j, j ≤ n + i ∧ (readCodes true i p).run (s.used e m x (8 * n)) = .ok q (s.used e m x (8 * j)) := by
  induction i generalizing n p with
  | zero => exact ⟨p, n, Nat.le_refl _, rfl⟩
  | succ i ih =>
    rw [run_readCodes_next (canRead_mono h (by omega))]
    split
    · exact ⟨_, n + 1, by omega, rfl⟩
    · rw [← Nat.add_assoc, Nat.add_right_comm] at h ⊢
      exact ih h

end

/-! ### Step 8: the entry and the record (R220, R222) -/

section
variable {s : State} {f k : Nat} {sl : Slots}

theorem run_mapAppend {j : Word} {b : Bool} : (mapAppend f k j b).run s =
    if s.mapCount.toNat = s.params.mapCap then .error .capacityExceeded s
    else .ok () (s.putRecord ⟨BitVec.ofNat 8 f, BitVec.ofNat 32 k, j, b⟩) := by
  rw [mapAppend, run_raiseWhen_bind]
  simp only [decide_eq_true_eq]
  rfl

theorem run_logAppend : (logAppend sl f k).run s =
    if s.logCount.toNat = s.params.logCap then .error .capacityExceeded s
    else .ok () (s.putEntry ⟨sl, BitVec.ofNat 8 f, BitVec.ofNat 32 k⟩) := by
  rw [logAppend, run_raiseWhen_bind]
  simp only [decide_eq_true_eq]
  rfl

theorem run_recordEntry : (recordEntry f k sl).run s =
    if s.logCount.toNat = s.params.logCap then .error .capacityExceeded s
    else (mapAppend f k s.logCount false).run (s.appendEntry f k sl) := by
  rw [recordEntry, run_withState, run_bind, run_logAppend]
  by_cases hlog : s.logCount.toNat = s.params.logCap
  · rw [if_pos hlog, if_pos hlog]
  · rw [if_neg hlog, if_neg hlog]
    rfl

/-- A cell step that comes to step 8 with the cursors `cs` answers as the statements say. -/
theorem appendsEntry_of_run {cs : Vector Cursor 8}
    (hrun : (cellStep f k).run s = (recordEntry f k sl).run { s with cursors := cs }) : AppendsEntry s f k sl cs := by
  rw [run_recordEntry] at hrun
  refine ⟨fun hlog => hrun.trans (if_pos hlog), fun hlog => ?_⟩
  rw [if_neg hlog, run_mapAppend] at hrun
  by_cases hmap : s.mapCount.toNat = s.params.mapCap
  · refine ⟨_, ?_, ?_, ?_, ?_, fun _ => ⟨hrun.trans (if_pos hmap), rfl⟩, fun hne => absurd hmap hne⟩
    · exact (State.entry_appendEntry ..).trans (if_pos rfl)
    · exact fun j hj => (State.entry_appendEntry ..).trans (if_neg hj)
    · exact (State.lastEntry_appendEntry ..).trans (if_pos rfl)
    · exact fun j hj => (State.lastEntry_appendEntry ..).trans (if_neg hj)
  · refine ⟨_, ?_, ?_, ?_, ?_, fun he => absurd he hmap, fun _ => ⟨hrun.trans (if_neg hmap), ?_, ?_, rfl⟩⟩
    · exact (State.entry_putRecord ..).trans ((State.entry_appendEntry ..).trans (if_pos rfl))
    · exact fun j hj => (State.entry_putRecord ..).trans ((State.entry_appendEntry ..).trans (if_neg hj))
    · exact (State.lastEntry_putRecord ..).trans ((State.lastEntry_appendEntry ..).trans (if_pos rfl))
    · exact fun j hj => (State.lastEntry_putRecord ..).trans ((State.lastEntry_appendEntry ..).trans (if_neg hj))
    · exact (State.record_putRecord ..).trans (if_pos rfl)
    · exact fun j hj => (State.record_putRecord ..).trans ((if_neg hj).trans (State.record_appendEntry ..))

end

end Sys2Proof.Machine

/-! PROOFS of O42, O43, O45 and O46 (R210 to R222): every form of a cell step, from its parts. -/
namespace Sys2Proof.Machine

open Sys2Proof.Claims

section
variable {s : State} {f k : Nat} {h : Option Word}

/-! ### An equal cell (R212) -/

theorem run_cellStep_equal {j : Word} (hlast : s.lastEntry k = some j) (heq : s.compEq = true) (hbit : nextBitIs s cEq true) :
    (cellStep f k).run s = (mapAppend f k j true).run (s.setCursor cEq (usedOn s cEq 1)) := by
  rw [run_cellStep_due hlast heq, equalCell, run_bind_ok (readOrFail_first usedOn_zero.symm rfl hbit.1), fieldAt_one, hbit.2]
  rfl

theorem run_cellStep_noEqualBit {j : Word} (hlast : s.lastEntry k = some j) (heq : s.compEq = true) (hbit : ¬ canRead s cEq 1) :
    (cellStep f k).run s = .error .truncatedStream (s.setCursor cEq (inError (s.cursor cEq))) := by
  rw [run_cellStep_due hlast heq, equalCell, run_bind_error (readOrFail_first_error usedOn_zero.symm hbit)]

/-! ### A new entry (R219, R220) -/

/-- A cell step whose codes come to the stack `p` appends the entry built from it. -/
theorem appendsEntry_of_codes {p : List Byte} {r : Nat} (hr : reachesCodes s k h) (hrawu : s.hasRaw = true → canRead s cRawu 1)
    (hp : (readCodes (rawBit s) (popcount4 (cellMask s h)) []).run
      (s.used (equalBitDue s h).toNat (maskBits h) s.hasRaw.toNat 0) =
        .ok p (s.used (equalBitDue s h).toNat (maskBits h) s.hasRaw.toNat r)) :
    AppendsEntry s f k (buildSlots (cellMask s h) (s.prevSlots h) p)
      (consumed s (equalBitDue s h).toNat (maskBits h) s.hasRaw.toNat r) := by
  refine appendsEntry_of_run ?_
  rw [run_cellStep_reachesCodes hr hrawu, run_bind_ok hp]
  cases h <;> rfl

/-- Raw codes of which no two neighbours are equal, as many as the mask has set bits (R216). -/
theorem run_readCodes_whole {e m x n : Nat} {raw : Bool} (hraw : 0 < n → raw = true) (hcan : 0 < n → canRead s cRawc (8 * n))
    (hne : ∀ i, i + 1 < n → rawCode s i ≠ rawCode s (i + 1)) :
    (readCodes raw n []).run (s.used e m x 0) = .ok (rawStack s n) (s.used e m x (8 * n)) := by
  cases n with
  | zero => rfl
  | succ n =>
    rw [hraw n.succ_pos]
    exact run_readCodes_distinct (i := 0) hcan hne

/-- Codes of which number `m + 1`, counted from 0, equals the one before it: the run terminator on top of those before (R217). -/
theorem run_readCodes_terminated {e x y m n : Nat} (hm : m + 2 ≤ n) (hcan : canRead s cRawc (8 * (m + 2)))
    (heq : rawCode s m = rawCode s (m + 1)) (hne : ∀ i, i + 1 < m + 1 → rawCode s i ≠ rawCode s (i + 1)) :
    (readCodes true n []).run (s.used e x y 0) = .ok (0 :: rawStack s (m + 1)) (s.used e x y (8 * (m + 2))) := by
  obtain ⟨i, rfl⟩ := Nat.exists_eq_add_of_le hm
  have hsplit : m + 2 + i = m + 1 + (i + 1) := by omega
  have hcan' : 0 < m + 1 → canRead s cRawc (8 * (m + 1)) := fun _ => canRead_mono hcan (by omega)
  rw [hsplit, run_readCodes_distinct hcan' hne, run_readCodes_next (n := m + 1) hcan]
  exact if_pos (head?_rawStack_eq_some.2 ⟨m.succ_pos, heq⟩)

/-! ### A code that is not there (R216) -/

theorem run_readCodes_short {e m x n i : Nat} (hi : i < n) (hcan : 0 < i → canRead s cRawc (8 * i))
    (hend : ¬ canRead s cRawc (8 * (i + 1))) (hne : ∀ j, j + 1 < i → rawCode s j ≠ rawCode s (j + 1)) :
    (readCodes true n []).run (s.used e m x 0) =
      .error .truncatedStream ((s.used e m x (8 * i)).setCursor cRawc (inError (usedOn s cRawc (8 * i)))) := by
  obtain ⟨l, rfl⟩ := Nat.exists_eq_add_of_lt hi
  rw [Nat.add_assoc, run_readCodes_distinct hcan hne, readCodes]
  exact run_bind_error (readOrFail_used_error State.used_cursor_rawc (fun h8 => hcan (by omega)) hend)

/-- An incremental cell with a set mask bit needs a code that cannot be read (R218). -/
theorem run_readCodes_incremental {n : Nat} {u : State} (hn : 0 < n) :
    (readCodes false n []).run u = .error .incrementalUnsupported u := by
  obtain ⟨n, rfl⟩ := Nat.exists_eq_succ_of_ne_zero hn.ne'
  rfl

theorem canRead_of_incremental (hi : incremental s) : s.hasRaw = true → canRead s cRawu 1 := fun hraw =>
  hi.elim (fun h => absurd hraw (by simp [h])) (·.1)

end

/-- Settles O42: the equal-cell bit, then MapAppend. -/
theorem equalCellReusesEntry : Obligations.EqualCellReusesEntry := by
  refine fun s f k j hlast heq => ⟨fun hbit hmap => ?_, fun hbit hmap => ?_, run_cellStep_noEqualBit hlast heq⟩
  · refine ⟨_, ((run_cellStep_equal hlast heq hbit).trans run_mapAppend).trans (if_neg hmap), ?_, fun i hi => ?_, rfl⟩
    · exact (State.record_putRecord ..).trans (if_pos rfl)
    · exact (State.record_putRecord ..).trans (if_neg hi)
  · exact ((run_cellStep_equal hlast heq hbit).trans run_mapAppend).trans (if_pos hmap)

/-- Settles O43: the stack of all the codes. -/
theorem rawCellBuildsEntry : Obligations.RawCellBuildsEntry := by
  rintro s f k n h hr rfl hrawu hcodes hne
  refine ⟨_, fun i => ?_, appendsEntry_of_codes hr hrawu (run_readCodes_whole
    (fun hn => rawBit_of_next (hcodes hn).1 (hcodes hn).2.1) (fun hn => (hcodes hn).2.2) hne)⟩
  rw [slotOf_buildSlots]
  by_cases hset : (cellMask s h).getLsbD i.val = true
  · rw [if_pos hset, if_pos hset, rawStack_getD (maskRank_lt_popcount4 i.isLt hset)]
  · rw [if_neg hset, if_neg hset]

/-- Settles O45: the run terminator on top of the codes before it. -/
theorem runTerminatorEndsCell : Obligations.RunTerminatorEndsCell := by
  intro s f k m h hr hm2 hm hraw hbit hcan heq hne
  obtain ⟨m, rfl⟩ := Nat.exists_eq_add_of_le' hm2
  have happ := appendsEntry_of_codes (f := f) hr (fun _ => hbit.1) (rawBit_of_next hraw hbit ▸
    run_readCodes_terminated hm hcan heq fun i hi => hne i (by omega))
  rw [hraw] at happ
  refine ⟨_, fun i => ?_, happ⟩
  rw [slotOf_buildSlots]
  split
  · rcases maskRank (cellMask s h) i.val with _ | r
    · rfl
    · rw [List.getD_cons_succ, if_neg (Nat.succ_ne_zero r)]
      split
      case isTrue hlt =>
        rw [rawStack_getD (by omega)]
        congr 1
        omega
      case isFalse hge => exact List.getD_eq_default _ _ (by rw [rawStack_length]; omega)
  · rfl

/-- Settles O46: the part of the cell step that raises, after the parts that do not. -/
theorem incrementalCellFails : Obligations.IncrementalCellFails := by
  intro s f k h
  refine ⟨fun hr hi hmask => ?_, fun hr hi hmask => ?_, fun hr hsome hmask => ?_, fun hr hraw hrawu => ?_,
    fun i hr hraw hbit hi hcan hend hne => ?_⟩
  · have hpos := Nat.pos_of_ne_zero fun h0 => hmask (popcount4_eq_zero.1 h0)
    rw [run_cellStep_reachesCodes hr (canRead_of_incremental hi), rawBit_of_incremental hi,
      run_bind_error (run_readCodes_incremental hpos)]
    rfl
  · have happ := appendsEntry_of_codes (f := f) (p := []) (r := 0) hr (canRead_of_incremental hi) (by
      rw [popcount4_eq_zero.2 hmask]
      rfl)
    rwa [hmask, buildSlots_zero] at happ
  · rw [run_cellStep_reachesMask hr, run_decodeCell_noMask hsome hmask]
    rfl
  · rw [run_cellStep_noRawUsage hr hraw hrawu]
    rfl
  · have hrun := run_cellStep_reachesCodes (f := f) hr fun _ => hbit.1
    rw [rawBit_of_next hraw hbit, hraw] at hrun
    exact hrun.trans (run_bind_error (run_readCodes_short hi hcan hend hne))

end Sys2Proof.Machine

/-! PROOF of O41 (R207, R209, R222, R253): RECON as one list of cell steps; and what each step leaves of the worst case that the
sub-streams and the tables hold for all of them. -/
namespace Sys2Proof.Machine

open Sys2Proof.Claims

/-! ### RECON as its cell steps (R207, R209) -/

theorem forEach_append {γ : Type} (body : γ → Cmd Unit) (xs ys : List γ) :
    forEach (xs ++ ys) body = forEach xs body >>= fun _ => forEach ys body := by
  induction xs with
  | nil => rw [List.nil_append, forEach, pure_bind]
  | cons x xs ih => rw [List.cons_append, forEach, ih, forEach, bind_assoc]

theorem forEach_map {γ δ : Type} (g : γ → δ) (body : δ → Cmd Unit) (xs : List γ) :
    forEach (xs.map g) body = forEach xs fun x => body (g x) := by
  induction xs with
  | nil => rfl
  | cons x xs ih => rw [List.map_cons, forEach, ih, forEach]

theorem runSteps_append (l l' : List (Nat × Nat)) : runSteps (l ++ l') = runSteps l >>= fun _ => runSteps l' :=
  forEach_append _ l l'

/-- The cell steps of frame `f` (R209). -/
def frameSteps (s : State) (f : Nat) : List (Nat × Nat) := (s.coveredCells f).map fun k => (f, k)

section
variable {s u : State}

theorem SameGrid.refl (s : State) : SameGrid s s := ⟨rfl, rfl, rfl, rfl⟩

theorem runSteps_keep_grid (l : List (Nat × Nat)) : Keeps (SameGrid s) (runSteps l) :=
  Keeps.forEach l fun _ _ => Keeps.cellStep ⟨fun _ _ _ _ _ h => h, fun _ _ h => h, fun _ _ h => h, fun _ _ h => h⟩

theorem run_reconFrame (h : SameGrid s u) (f : Nat) : (reconFrame f).run u = (runSteps (frameSteps s f)).run u := by
  rw [reconFrame, run_withState, h.coveredCells, runSteps, frameSteps, forEach_map]

/-- The frames' cell steps are those of the state RECON begins in, as no cell step changes the geometry. -/
theorem run_reconFrames (s : State) (n : Nat) :
    (forBelow n reconFrame).run s = (runSteps ((List.range n).flatMap (frameSteps s))).run s := by
  induction n with
  | zero => rfl
  | succ n ih =>
    rw [forBelow, run_bind, ih, List.range_succ, List.flatMap_append, List.flatMap_singleton, runSteps_append, run_bind]
    cases hrun : (runSteps ((List.range n).flatMap (frameSteps s))).run s with
    | ok _ t => exact run_reconFrame ((runSteps_keep_grid _).ok (SameGrid.refl s) hrun) n
    | error e t => rfl

theorem run_reconCmd (hr : s.readyAt .setup) :
    reconCmd.run s = (runSteps (cellSteps s) >>= fun _ => write fun t => { t with stage := .done }).run s := by
  refine (run_raiseWhen_pass (by rw [stageReady_iff.2 hr]; rfl)).trans ?_
  rw [run_withState_bind, run_bind, run_reconFrames, ← run_bind]
  rfl

theorem exec_recon_ends (hr : s.readyAt .setup) {t : State} (hrun : (runSteps (cellSteps s)).run s = .ok () t) :
    exec .recon s = .next { t with stage := .done, err := none } :=
  complete_ok ((run_reconCmd hr).trans (run_bind_ok hrun))

/-- What a cell step raises is a data error, and RECON stays at STAGE = SETUP (R253). -/
theorem exec_recon_raises (hr : s.readyAt .setup) {e : ErrorKind} {t : State}
    (hrun : (runSteps (cellSteps s)).run s = .error e t) :
    t.stage = .setup ∧ exec .recon s = .next { t with err := some e, failed := true } := by
  have hcmd := (run_reconCmd hr).trans (run_bind_error hrun)
  rcases (reconCmd_ends s).err rfl hcmd with ⟨hdata, -, hstage⟩ | ⟨-, hnot, -⟩
  · refine ⟨List.mem_singleton.1 hstage, (complete_error hcmd).trans ?_⟩
    simp [takeError, hdata]
  · exact absurd hr hnot

end

/-! ### What one step needs and leaves -/

/-- Cell `k` has an entry (R43). -/
def State.hasEntry (s : State) (k : Nat) : Bool := (s.lastEntry k).isSome

/-- The sub-streams hold enough for the cell steps `l` in the worst case, all cells are raw, and LOG and MAP have room. -/
structure HoldsWorstCase (u : State) (l : List (Nat × Nat)) : Prop where
  marks : 0 < revisits u.hasEntry (l.map Prod.snd) →
    (u.compEq = true → canRead u cEq (revisits u.hasEntry (l.map Prod.snd))) ∧
      canRead u cMask (4 * revisits u.hasEntry (l.map Prod.snd))
  codes : 0 < l.length → u.hasRaw = true ∧ canRead u cRawu l.length ∧ canRead u cRawc (32 * l.length) ∧
    ∀ j, j < l.length → srcBit u.src (nextBit (u.cursor cRawu) + j) = true
  log : u.logCount.toNat + l.length ≤ u.params.logCap
  map : u.mapCount.toNat + l.length ≤ u.params.mapCap

/-- `t` is `u` after a cell step of cell `k` of frame `f` that has at most used the worst case, and has appended its record. -/
structure Stepped (u : State) (f k : Nat) (t : State) : Prop where
  src : t.src = u.src
  hasRaw : t.hasRaw = u.hasRaw
  compEq : t.compEq = u.compEq
  params : t.params = u.params
  streams : ∃ e m x r, e ≤ (u.hasEntry k).toNat ∧ m ≤ 4 * (u.hasEntry k).toNat ∧ x ≤ 1 ∧ r ≤ 32 ∧
    t.cursors = consumed u e m x r
  entries : ∀ j, t.hasEntry j = (u.hasEntry j || j == k)
  log_le : u.logCount.toNat ≤ t.logCount.toNat
  le_log : t.logCount.toNat ≤ u.logCount.toNat + 1
  map : t.mapCount.toNat = u.mapCount.toNat + 1
  recorded : (t.record u.mapCount.toNat).frame = BitVec.ofNat 8 f ∧ (t.record u.mapCount.toNat).cell = BitVec.ofNat 32 k
  older : ∀ j, j ≠ u.mapCount.toNat → t.record j = u.record j

section
variable {u t : State} {f k : Nat} {l : List (Nat × Nat)}

theorem revisits_cons (seen : Nat → Bool) (k : Nat) (ks : List Nat) :
    revisits seen (k :: ks) = (seen k).toNat + revisits (fun j => seen j || j == k) ks := rfl

/-- What is left of a stream after `n` of its bits. -/
theorem canRead_after {c : CursorIx} {n w : Nat} (ht : t.cursor c = usedOn u c n) (h : canRead u c (n + w)) : canRead t c w := by
  rw [canRead_iff] at h ⊢
  rwa [ht, blocks_usedOn fun _ => canRead_mono (canRead_iff.2 h) (Nat.le_add_right ..)]

/-- A step leaves the worst case of the steps after it. -/
theorem HoldsWorstCase.next (h : HoldsWorstCase u ((f, k) :: l)) (ht : Stepped u f k t) : HoldsWorstCase t l := by
  obtain ⟨e, m, x, r, he, hm, hx, hr, hcursors⟩ := ht.streams
  have hcur : ∀ c, t.cursor c = (u.used e m x r).cursor c := fun c => by rw [State.cursor, hcursors]; rfl
  have hseen : t.hasEntry = fun j => u.hasEntry j || j == k := funext ht.entries
  obtain ⟨hmarks, hcodes, hlog, hmap⟩ := h
  simp only [List.map_cons, revisits_cons, List.length_cons, ← hseen] at hmarks hcodes hlog hmap
  refine ⟨fun hv => ?_, fun hn => ?_, ?_, ?_⟩
  · obtain ⟨heq, hmask⟩ := hmarks (by omega)
    refine ⟨fun hc => ?_, ?_⟩
    · exact canRead_after ((hcur cEq).trans State.used_cursor_eq) (canRead_mono (heq (ht.compEq ▸ hc)) (by omega))
    · exact canRead_after ((hcur cMask).trans State.used_cursor_mask) (canRead_mono hmask (by omega))
  · obtain ⟨hraw, hrawu, hrawc, hbits⟩ := hcodes (by omega)
    have hmoved := (hcur cRawu).trans State.used_cursor_rawu
    refine ⟨ht.hasRaw.trans hraw, canRead_after hmoved (canRead_mono hrawu (by omega)), ?_, fun j hj => ?_⟩
    · exact canRead_after ((hcur cRawc).trans State.used_cursor_rawc) (canRead_mono hrawc (by omega))
    · rw [hmoved, nextBit_usedOn fun _ => canRead_mono hrawu (by omega), ht.src, Nat.add_assoc]
      exact hbits (x + j) (by omega)
  · have := ht.le_log
    rw [ht.params]
    omega
  · rw [ht.map, ht.params]
    omega

/-- A step that reuses the cell's entry (R212). -/
theorem stepped_equal {j : Word} (hlast : u.lastEntry k = some j) (hmap : u.mapCount.toNat < u.params.mapCap) :
    Stepped u f k ((u.setCursor cEq (usedOn u cEq 1)).putRecord ⟨BitVec.ofNat 8 f, BitVec.ofNat 32 k, j, true⟩) where
  src := rfl
  hasRaw := rfl
  compEq := rfl
  params := rfl
  streams := by
    refine ⟨1, 0, 0, 0, by simp [State.hasEntry, hlast], Nat.zero_le _, Nat.zero_le _, Nat.zero_le _, ?_⟩
    have hset := State.used_setCursor_eq (s := u) (e := 0) (m := 0) (x := 0) (r := 0) (n := 1)
    rw [State.used_zero] at hset
    exact congrArg State.cursors hset
  entries i := by
    show u.hasEntry i = _
    by_cases hi : i = k
    · simp [State.hasEntry, hi, hlast]
    · simp [hi]
  log_le := Nat.le_refl _
  le_log := Nat.le_succ _
  map := count_succ hmap (mapCap_lt _)
  recorded := by
    have hrec := (State.record_putRecord (u.setCursor cEq (usedOn u cEq 1)) ⟨BitVec.ofNat 8 f, BitVec.ofNat 32 k, j, true⟩
      u.mapCount.toNat).trans (if_pos rfl)
    rw [hrec]
    exact ⟨rfl, rfl⟩
  older i hi := (State.record_putRecord ..).trans (if_neg hi)

/-- A step that appends an entry, with LOG and MAP not full (R220, R222). -/
theorem stepped_of_appendsEntry {sl : Slots} {e m x r : Nat} (h : AppendsEntry u f k sl (consumed u e m x r))
    (hlog : u.logCount.toNat < u.params.logCap) (hmap : u.mapCount.toNat < u.params.mapCap) (he : e ≤ (u.hasEntry k).toNat)
    (hm : m ≤ 4 * (u.hasEntry k).toNat) (hx : x ≤ 1) (hr : r ≤ 32) :
    ∃ t, (cellStep f k).run u = .ok () t ∧ Stepped u f k t := by
  obtain ⟨t, -, -, hlast, hothers, -, happ⟩ := h.2 hlog.ne
  obtain ⟨hrun, hrec, hold, ht⟩ := happ hmap.ne
  have hcount := count_succ hlog ((logCap_le_mapCap _).trans_lt (mapCap_lt _))
  have hlogCount : t.logCount = u.logCount + 1 := congrArg State.logCount ht
  have hmapCount : t.mapCount = u.mapCount + 1 := congrArg State.mapCount ht
  refine ⟨t, hrun, (congrArg State.src ht :), (congrArg State.hasRaw ht :), (congrArg State.compEq ht :),
    (congrArg State.params ht :),
    ⟨e, m, x, r, he, hm, hx, hr, (congrArg State.cursors ht :)⟩, fun j => ?_, ?_, ?_, ?_, ?_, hold⟩
  · by_cases hj : j = k
    · simp [State.hasEntry, hj, hlast]
    · simp [State.hasEntry, hj, hothers j hj]
  · rw [hlogCount, hcount]
    exact Nat.le_succ _
  · rw [hlogCount, hcount]
  · rw [hmapCount, count_succ hmap (mapCap_lt _)]
  · rw [hrec]
    exact ⟨rfl, rfl⟩

/-- A cell of the worst case that is not reused: its mask, its raw-usage bit and its codes are there (R213 to R216). -/
theorem cellStep_appends_of_worstCase (h : HoldsWorstCase u ((f, k) :: l)) (hr : reachesCodes u k (u.lastEntry k)) :
    ∃ t, (cellStep f k).run u = .ok () t ∧ Stepped u f k t := by
  obtain ⟨-, hcodes, hlog, hmap⟩ := h
  rw [List.length_cons] at hcodes hlog hmap
  obtain ⟨hraw, hrawu, hrawc, hbits⟩ := hcodes (Nat.succ_pos _)
  have hbit : nextBitIs u cRawu true := ⟨canRead_mono hrawu (by omega), hbits 0 (Nat.succ_pos _)⟩
  have hpop := popcount4_le (cellMask u (u.lastEntry k))
  obtain ⟨q, j, hj, hrun⟩ := run_readCodes_ends (s := u) (e := (equalBitDue u (u.lastEntry k)).toNat)
    (m := maskBits (u.lastEntry k)) (x := 1) (n := 0) (i := popcount4 (cellMask u (u.lastEntry k))) (p := [])
    (canRead_mono hrawc (by omega))
  have happ := appendsEntry_of_codes (f := f) (p := q) (r := 8 * j) hr (fun _ => hbit.1) (by
    rw [rawBit_of_next hraw hbit, hraw]
    exact hrun)
  refine stepped_of_appendsEntry happ (by omega) (by omega) ?_ ?_ (Bool.toNat_le _) (by omega)
  · exact Bool.toNat_le_toNat fun hdue => (Bool.and_eq_true_iff.1 hdue).1
  · unfold maskBits State.hasEntry
    cases (u.lastEntry k).isSome <;> decide

/-- A cell step of the worst case ends. -/
theorem cellStep_of_worstCase (h : HoldsWorstCase u ((f, k) :: l)) :
    ∃ t, (cellStep f k).run u = .ok () t ∧ Stepped u f k t := by
  have hmarks := h.marks
  have hmap : u.mapCount.toNat < u.params.mapCap := by
    have := h.map
    rw [List.length_cons] at this
    omega
  simp only [List.map_cons, revisits_cons] at hmarks
  have hmask : (u.lastEntry k).isSome = true → (u.compEq = true → canRead u cEq 1) ∧ canRead u cMask 4 := fun hsome => by
    have hone : (u.hasEntry k).toNat = 1 := by rw [State.hasEntry, hsome]; rfl
    obtain ⟨heq, hfour⟩ := hmarks (by omega)
    exact ⟨fun hc => canRead_mono (heq hc) (by omega), canRead_mono hfour (by omega)⟩
  by_cases hequal : equalBitDue u (u.lastEntry k) = true ∧ srcBit u.src (nextBit (u.cursor cEq)) = true
  · obtain ⟨hdue, hbit⟩ := hequal
    obtain ⟨hsome, heq⟩ := Bool.and_eq_true_iff.1 hdue
    obtain ⟨j, hj⟩ := Option.isSome_iff_exists.1 hsome
    exact ⟨_, ((run_cellStep_equal hj heq ⟨(hmask hsome).1 heq, hbit⟩).trans run_mapAppend).trans (if_neg hmap.ne),
      stepped_equal hj hmap⟩
  · refine cellStep_appends_of_worstCase h ⟨⟨rfl, fun hdue => ?_⟩, fun hsome => (hmask hsome).2⟩
    obtain ⟨hsome, heq⟩ := Bool.and_eq_true_iff.1 hdue
    exact ⟨(hmask hsome).1 heq, Bool.eq_false_iff.2 fun hbit => hequal ⟨hdue, hbit⟩⟩

/-! ### All the steps -/

/-- `t` is `u` after the cell steps `l`: a record for each, in order, and at most as many entries (R222). -/
structure RecordsSteps (u : State) (l : List (Nat × Nat)) (t : State) : Prop where
  map : t.mapCount.toNat = u.mapCount.toNat + l.length
  log_le : u.logCount.toNat ≤ t.logCount.toNat
  le_log : t.logCount.toNat ≤ u.logCount.toNat + l.length
  recorded : ∀ (i : Nat) (hi : i < l.length), (t.record (u.mapCount.toNat + i)).frame = BitVec.ofNat 8 l[i].1 ∧
    (t.record (u.mapCount.toNat + i)).cell = BitVec.ofNat 32 l[i].2
  older : ∀ j, j < u.mapCount.toNat → t.record j = u.record j

theorem recordsSteps_nil : RecordsSteps u [] u :=
  ⟨rfl, Nat.le_refl _, Nat.le_refl _, fun _ hi => absurd hi (Nat.not_lt_zero _), fun _ _ => rfl⟩

theorem Stepped.recordsSteps {v : State} (ht : Stepped u f k t) (h : RecordsSteps t l v) : RecordsSteps u ((f, k) :: l) v := by
  obtain ⟨hmap, hlog, hlog', hrec, hold⟩ := h
  rw [ht.map] at hmap hrec hold
  refine ⟨?_, ht.log_le.trans hlog, ?_, fun i hi => ?_, fun j hj => ?_⟩
  · rw [hmap, List.length_cons]
    omega
  · have := ht.le_log
    rw [List.length_cons]
    omega
  · cases i with
    | zero =>
      rw [Nat.add_zero, hold _ (Nat.lt_succ_self _)]
      exact ht.recorded
    | succ i =>
      rw [← Nat.add_assoc, Nat.add_right_comm]
      exact hrec i (Nat.lt_of_succ_lt_succ hi)
  · rw [hold j (Nat.lt_succ_of_lt hj), ht.older j hj.ne]

theorem runSteps_of_worstCase (h : HoldsWorstCase u l) : ∃ t, (runSteps l).run u = .ok () t ∧ RecordsSteps u l t := by
  induction l generalizing u with
  | nil => exact ⟨u, rfl, recordsSteps_nil⟩
  | cons p l ih =>
    obtain ⟨t, hrun, ht⟩ := cellStep_of_worstCase h
    obtain ⟨v, hrest, hv⟩ := ih (h.next ht)
    exact ⟨v, (run_bind_ok hrun).trans hrest, ht.recordsSteps hv⟩

end

/-- Settles O41: RECON as its cell steps, and an induction over them from the worst case. -/
theorem reconCompletes : Obligations.ReconCompletes := by
  rintro s _ _ hstage hfailed rfl rfl
  have hr : s.readyAt .setup := ⟨hstage, hfailed⟩
  refine ⟨fun t hrun => exec_recon_ends hr hrun, fun e t hrun => exec_recon_raises hr hrun, fun hmarks hcodes hlog hmap => ?_⟩
  obtain ⟨t, hrun, ht⟩ := runSteps_of_worstCase ⟨hmarks, hcodes, hlog, hmap⟩
  have hready := ((reconCmd_ends s).ok rfl ((run_reconCmd hr).trans (run_bind_ok hrun))).2
  refine ⟨_, exec_recon_ends hr hrun, rfl, hready.2, rfl, ?_, ht.map, ht.log_le, ht.le_log, ht.recorded⟩
  have hok : t.failed = false := hready.2
  rw [State.outputValid, hok]
  rfl

end Sys2Proof.Machine

/-! PROOF of O50 (R29, R225): no stage command reads ERR, so that clearing it between two stages, which the end of a command does,
changes nothing of the next one but the ERR it leaves; and ending DECODE writes ERR anyway. -/
namespace Sys2Proof.Machine

open Sys2Proof.Claims

variable {α β : Type}

/-- Clearing ERR where a command has ended. -/
def withErrCleared (r : EStateM.Result ErrorKind State α) : EStateM.Result ErrorKind State α :=
  match r with
  | .ok a t => .ok a (succeed t)
  | .error e t => .error e (succeed t)

/-- The command ends in the same way whether ERR was cleared before it or is after it. -/
def IgnoresErr (x : Cmd α) : Prop := ∀ s, x.run (succeed s) = withErrCleared (x.run s)

/-! ### The rules of the constructs -/

theorem IgnoresErr.pure {a : α} : IgnoresErr (pure a : Cmd α) := fun _ => rfl

theorem IgnoresErr.bind {x : Cmd α} {f : α → Cmd β} (hx : IgnoresErr x) (hf : ∀ a, IgnoresErr (f a)) :
    IgnoresErr (x >>= f) := by
  intro s
  rw [run_bind, run_bind, hx]
  cases x.run s with
  | ok a t => exact hf a t
  | error e t => rfl

theorem IgnoresErr.write {f : State → State} (h : ∀ s, f (succeed s) = succeed (f s)) : IgnoresErr (write f) := fun s =>
  congrArg (EStateM.Result.ok ()) (h s)

theorem IgnoresErr.raiseWhen {p : State → Bool} {e : ErrorKind} (h : ∀ s, p (succeed s) = p s) :
    IgnoresErr (raiseWhen p e) := by
  intro s
  rw [run_raiseWhen, run_raiseWhen, h]
  cases p s <;> rfl

theorem IgnoresErr.withState {f : State → Cmd α} (hf : ∀ s, f (succeed s) = f s) (hx : ∀ s, IgnoresErr (f s)) :
    IgnoresErr (withState f) := by
  intro s
  rw [run_withState, hf]
  exact hx s s

theorem IgnoresErr.forBelow {body : Nat → Cmd Unit} (h : ∀ i, IgnoresErr (body i)) (n : Nat) :
    IgnoresErr (forBelow n body) := by
  induction n with
  | zero => exact .pure
  | succ n ih => exact ih.bind fun _ => h n

theorem IgnoresErr.forEach {γ : Type} {body : γ → Cmd Unit} (h : ∀ x, IgnoresErr (body x)) (xs : List γ) :
    IgnoresErr (forEach xs body) := by
  induction xs with
  | nil => exact .pure
  | cons x xs ih => exact (h x).bind fun _ => ih

theorem IgnoresErr.onlyIf {p : Bool} {x : Cmd Unit} (h : IgnoresErr x) : IgnoresErr (onlyIf p x) := by
  cases p
  · exact .pure
  · exact h

theorem readOrFail_ignoresErr {c : CursorIx} {w : Nat} : IgnoresErr (readOrFail c w) :=
  IgnoresErr.bind (fun _ => rfl) fun _ => (IgnoresErr.raiseWhen fun _ => rfl).bind fun _ => .pure

/-! ### PREFIX, PCT and SETUP -/

theorem readLength_ignoresErr {g : Nat → SubSizes → SubSizes} :
    IgnoresErr (readInto 20 fun v s => { s with sizes := g v s.sizes }) :=
  readOrFail_ignoresErr.bind fun _ => .write fun _ => rfl

theorem prefixCmd_ignoresErr : IgnoresErr prefixCmd := by
  refine (IgnoresErr.raiseWhen fun _ => rfl).bind fun _ => ?_
  refine (IgnoresErr.withState (fun _ => rfl) fun _ =>
    .onlyIf (readLength_ignoresErr (g := fun v z => { z with eq := BitVec.ofNat 20 v }))).bind fun _ => ?_
  refine (readLength_ignoresErr (g := fun v z => { z with mask := BitVec.ofNat 20 v })).bind fun _ => ?_
  refine (IgnoresErr.withState (fun _ => rfl) fun _ => .onlyIf ?_).bind fun _ => .write fun _ => rfl
  exact (readLength_ignoresErr (g := fun v z => { z with rawu := BitVec.ofNat 20 v })).bind fun _ =>
    readLength_ignoresErr (g := fun v z => { z with rawc := BitVec.ofNat 20 v })

theorem readPresence_ignoresErr {j : Nat} : IgnoresErr (readPresence j) :=
  readOrFail_ignoresErr.bind fun b => .write fun s => by
    split
    · rfl
    · rfl

theorem pctCmd_ignoresErr : IgnoresErr pctCmd :=
  (IgnoresErr.raiseWhen fun _ => rfl).bind fun _ => (IgnoresErr.forBelow (fun _ => readPresence_ignoresErr) 256).bind fun _ =>
    .write fun _ => rfl

theorem failIfErr_ignoresErr {c : CursorIx} : IgnoresErr (failIfErr c) := .raiseWhen fun _ => rfl

theorem carve_ignoresErr {d : CursorIx} {n : State → Nat} (hn : ∀ s, n (succeed s) = n s) : IgnoresErr (carve d n) := by
  refine IgnoresErr.bind (.withState (fun s => ?_) fun s => ?_) fun _ => failIfErr_ignoresErr
  · rw [hn]
  · exact .write fun _ => rfl

theorem setupCmd_ignoresErr : IgnoresErr setupCmd := by
  refine (IgnoresErr.raiseWhen fun _ => rfl).bind fun _ => ?_
  refine (carve_ignoresErr fun _ => rfl).bind fun _ => (carve_ignoresErr fun _ => rfl).bind fun _ => ?_
  refine (carve_ignoresErr fun _ => rfl).bind fun _ => (carve_ignoresErr fun _ => rfl).bind fun _ => ?_
  refine IgnoresErr.bind (.write fun _ => rfl) fun _ => IgnoresErr.bind (.write fun _ => rfl) fun _ => ?_
  refine IgnoresErr.bind (.write fun _ => rfl) fun _ => IgnoresErr.bind (.raiseWhen fun _ => rfl) fun _ => ?_
  exact IgnoresErr.bind (.write fun _ => rfl) fun _ => .write fun _ => rfl

/-! ### RECON -/

theorem readMask_ignoresErr {h : Option Word} : IgnoresErr (readMask h) := by
  cases h with
  | none => exact .pure
  | some j => exact readOrFail_ignoresErr.bind fun _ => .pure

theorem readRawUsage_ignoresErr : IgnoresErr readRawUsage := by
  refine IgnoresErr.withState (fun _ => rfl) fun s => ?_
  cases s.hasRaw with
  | false => exact .pure
  | true => exact readOrFail_ignoresErr.bind fun _ => .pure

theorem readCodes_ignoresErr {raw : Bool} {n : Nat} {p : List Byte} : IgnoresErr (readCodes raw n p) := by
  induction n generalizing p with
  | zero => exact .pure
  | succ n ih =>
    cases raw with
    | false => exact fun _ => rfl
    | true =>
      refine readOrFail_ignoresErr.bind fun v => ?_
      split
      · exact .pure
      · exact ih

theorem mapAppend_ignoresErr {f k : Nat} {j : Word} {reused : Bool} : IgnoresErr (mapAppend f k j reused) :=
  (IgnoresErr.raiseWhen fun _ => rfl).bind fun _ => .write fun _ => rfl

theorem logAppend_ignoresErr {f k : Nat} {e : Slots} : IgnoresErr (logAppend e f k) :=
  (IgnoresErr.raiseWhen fun _ => rfl).bind fun _ => .write fun _ => rfl

theorem recordEntry_ignoresErr {f k : Nat} {e : Slots} : IgnoresErr (recordEntry f k e) :=
  .withState (fun _ => rfl) fun _ => logAppend_ignoresErr.bind fun _ => IgnoresErr.bind (.write fun _ => rfl) fun _ =>
    mapAppend_ignoresErr

theorem decodeCell_ignoresErr {f k : Nat} {h : Option Word} : IgnoresErr (decodeCell f k h) :=
  readMask_ignoresErr.bind fun _ => readRawUsage_ignoresErr.bind fun _ => readCodes_ignoresErr.bind fun _ =>
    .withState (fun _ => by cases h <;> rfl) fun _ => recordEntry_ignoresErr

theorem cellStep_ignoresErr {f k : Nat} : IgnoresErr (cellStep f k) := by
  refine IgnoresErr.withState (fun _ => rfl) fun s => ?_
  split
  · refine readOrFail_ignoresErr.bind fun b => ?_
    split
    · exact mapAppend_ignoresErr
    · exact decodeCell_ignoresErr
  · exact decodeCell_ignoresErr

theorem reconCmd_ignoresErr : IgnoresErr reconCmd := by
  refine (IgnoresErr.raiseWhen fun _ => rfl).bind fun _ => IgnoresErr.bind ?_ fun _ => .write fun _ => rfl
  refine .withState (fun _ => rfl) fun s => .forBelow (fun f => ?_) _
  exact .withState (fun _ => rfl) fun t => .forEach (fun _ => cellStep_ignoresErr) _

/-! ### One stage after another -/

/-- Ending a command writes ERR whatever it was. -/
theorem complete_succeed {y : Cmd Unit} (hy : IgnoresErr y) (g : CmdGroup) (s : State) :
    complete g y (succeed s) = complete g y s := by
  rw [complete, complete, hy]
  cases y.run s with
  | ok _ t => rfl
  | error e t => rfl

/-- A stage issued after a command that ended is the two as one command. -/
theorem thenStage_complete {x y : Cmd Unit} {i : Instr} (hi : exec i = complete .stage y) (hy : IgnoresErr y) (s : State) :
    thenStage (complete .stage x s) i = complete .stage (x >>= fun _ => y) s := by
  cases hx : x.run s with
  | ok _ t =>
    have hboth : (x >>= fun _ => y).run s = y.run t := run_bind_ok hx
    rw [complete_ok hx, thenStage, if_pos rfl, hi, complete.eq_1 _ (x >>= fun _ => y), hboth]
    exact complete_succeed hy .stage t
  | error e t =>
    rw [complete_error hx, complete_error (run_bind_error hx), thenStage, takeError_err, if_neg (Option.some_ne_none e)]

/-- Settles O50: stage by stage, then the one command they make. -/
theorem decodeRunsStagesInOrder : Obligations.DecodeRunsStagesInOrder := by
  intro s
  show complete .stage decodeCmd s =
    thenStage (thenStage (thenStage (thenStage (complete .stage dirhdrCmd s) .readPrefix) .pct) .setup) .recon
  rw [thenStage_complete rfl prefixCmd_ignoresErr, thenStage_complete rfl pctCmd_ignoresErr,
    thenStage_complete rfl setupCmd_ignoresErr, thenStage_complete rfl reconCmd_ignoresErr]
  simp only [decodeCmd, bind_assoc]

end Sys2Proof.Machine

/-! PROOF of O7 (R265, R280): a step with no host action coming. -/
namespace Sys2Proof.Machine

/-- Settles O7: only a host action makes a step do anything, and an empty queue holds none. -/
theorem coreWaitsForHost : Obligations.CoreWaitsForHost := by
  intro s hempty
  unfold step
  rw [hempty]

end Sys2Proof.Machine

/-! PROOF of O10, O11 and O60 (R280 to R282): the state of reset, for any parameters, and the reset input. -/
namespace Sys2Proof.Machine

/-! ### What the host reads after reset -/

@[simp] theorem State.cursor_resetWith (p : Params) (c : CursorIx) : (State.resetWith p).cursor c = Cursor.empty := by
  simp only [State.cursor, State.resetWith, Fin.getElem_fin, Vector.getElem_replicate]

theorem cursorField_empty (field : Nat) : cursorField Cursor.empty field = 0 := by
  unfold cursorField
  split <;> rfl

theorem fhField_zero (field : FhField) : fhField FrameHeader.zero field = 0 := by
  cases field <;> rfl

theorem statusWord_resetWith (p : Params) : statusWord (State.resetWith p) = 0 := by
  have hcerr : cerrField (Vector.replicate 8 Cursor.empty) = 0 := by decide
  apply BitVec.eq_of_toNat_eq
  rw [statusWord_toNat]
  simp [State.resetWith, errField, stageField, hcerr]

theorem flagsField_clear : flagsField false false = 0 := by decide

theorem selsField_zero : selsField ⟨0, 0, 0, 0, 0, 0, 0⟩ = 0 := by decide

/-- STATUS, FLAGS and SELS are put together of fields that are 0; the other registers up to 0x20 are one such field, and from
there on only the cursors, which are empty, are mapped (R281). -/
theorem readReg_resetWith (p : Params) (no : Nat) : readReg (State.resetWith p) no = 0 := by
  unfold readReg
  split
  -- STATUS, FLAGS, SELS, and what comes after MAPCOUNT.
  case h_4 => exact congrArg (BitVec.setWidth 64) (statusWord_resetWith p)
  case h_16 => exact congrArg (BitVec.setWidth 64) flagsField_clear
  case h_17 => exact congrArg (BitVec.setWidth 64) selsField_zero
  case h_31 => rw [State.cursor_resetWith, cursorField_empty, ite_self]
  all_goals rfl

/-! Entries of the tables: an entry inside the table reads 0 because nothing is listed, one outside because of its index (R51). -/

theorem readTable_offt_resetWith (p : Params) (i : Nat) : readTable (State.resetWith p) (.offt i) = 0 := ite_self 0

theorem readTable_fh_resetWith (p : Params) (f : Nat) (field : FhField) :
    readTable (State.resetWith p) (.fh f field) = 0 := by
  have hfield : fhField ((State.resetWith p).frame f) field = 0 := fhField_zero field
  rw [readTable, hfield, ite_self]

theorem readTable_pct_resetWith (p : Params) (k : Nat) : readTable (State.resetWith p) (.pct k) = 0 := ite_self 0

/-- Settles O10: the registers by the map, the tables by their zero entries, whatever the parameters are. -/
theorem registersReadZeroAfterReset : Obligations.RegistersReadZeroAfterReset :=
  ⟨readReg_resetWith _, readTable_offt_resetWith _, readTable_fh_resetWith _, readTable_pct_resetWith _, rfl, rfl, rfl, rfl,
    State.cursor_resetWith _⟩

/-! ### The reset input -/

/-- Settles O11: the step is the host's reset action, which keeps only the parameters and the later actions. -/
theorem resetInputGivesResetState : Obligations.ResetInputGivesResetState :=
  ⟨fun _ _ hq => step_of_queue hq, rfl⟩

/-! ### The invariants at reset -/

theorem storesCanonical_resetWith (p : Params) : StoresCanonical (State.resetWith p) :=
  ⟨Memory.wf_nil _, Store.wf_nil, Store.wf_nil, Store.wf_nil, Store.wf_nil, Store.wf_nil, Store.wf_nil⟩

theorem cursorsInRange_resetWith (p : Params) : CursorsInRange (State.resetWith p) := by
  refine ⟨Nat.zero_le _, fun c => ?_⟩
  rw [State.cursor_resetWith]
  exact cursorInRange_empty

theorem logSound_resetWith (p : Params) : LogSound (State.resetWith p) :=
  logSound_of_fit ⟨Nat.zero_le _, Nat.zero_le _⟩ rfl nofun nofun

/-- Settles O60: the stores and counts are empty, the cursors are empty, and the rest holds because STAGE is IDLE. -/
theorem invariantsHoldAtReset : Obligations.InvariantsHoldAtReset :=
  ⟨storesCanonical_resetWith _, cursorsInRange_resetWith _, offsetsOrdered_of_idle rfl, codesOrdered_of_open (.inl rfl),
    geometrySound_of_open (.inl rfl), logSound_resetWith _⟩

end Sys2Proof.Machine
